-- ==== Sys2Proof/Word.lean ====
section
/-! DEFINITION. The widths the manual gives the values of the part that are bits: bytes, 4-byte words, host addresses,
store offsets, lane sets and the masks of the Written-Byte Map. -/

namespace Sys2Proof

/-- One lane: 8 data bits (Table 0-3). -/
abbrev Byte := BitVec 8

/-- The four lanes of one host or aux cycle; lane `k` is bits `8k` to `8k+7`. -/
abbrev Word := BitVec 32

/-- A 32-bit host byte address, memory or I/O. -/
abbrev HostAddr := BitVec 32

/-- A byte offset into one of the two external memories, at most 16 MiB each: a Boot offset or a Work offset. -/
abbrev Offset := BitVec 24

/-- A set of lanes: bit `k` is set when lane `k` is carried (Table 11-2, lane mask). -/
abbrev Lanes := BitVec 4

/-- A set of byte positions 0 to 31 of one line (R86). -/
abbrev LineMask := BitVec 32

/-- The 32 bytes of one line (Table 0-3). -/
abbrev Line := Vector Byte 32

end Sys2Proof
end

