-- ==== Sys2Proof/Syntax.lean ====
section
/-! DEFINITION. The commands of the part: one constructor of `Instr` for each row of spec/opcode_table.json, with what
the arrival carries. A host cycle carries what R39 says the HBI takes, an aux cycle what R123 says the AMP samples, a
release of reset the straps. Events that carry nothing have no operand. -/

namespace Sys2Proof

/-- Direction of a cycle. -/
inductive Direction where
  | read
  | write
  deriving DecidableEq, Repr

/-- A host memory cycle as R39 takes it. The address is the lines HA31 to HA2: the cycle is aligned to 4 bytes. `data`
means something on the carried lanes of a write only. -/
structure MemoryCycle where
  ha    : BitVec 30
  dir   : Direction
  lanes : Lanes
  data  : Word
  deriving DecidableEq, Repr

/-- A host I/O cycle as R39 takes it: the address lines HA31 to HA2 of its aligned word, its lanes and its data.
The direction is write, except where a command carries one of its own. -/
structure IoCycle where
  ha    : BitVec 30
  lanes : Lanes
  data  : Word
  deriving DecidableEq, Repr

/-- The lines the AMP samples at the start of an aux cycle (R123): AA23 to AA2, AWR, ALN3 to ALN0 and AD. -/
structure AuxRequest where
  aa    : BitVec 22
  dir   : Direction
  lanes : Lanes
  data  : Word
  deriving DecidableEq, Repr

/-- The strap pins as they stand when RESET is released (R1, R15, R115, R159). `winpos`, `portsel` and `parity` hold
whether the strap is 1. -/
structure Straps where
  winpos   : Bool
  bootspan : BitVec 2
  wsize    : BitVec 2
  bsize    : BitVec 2
  portsel  : Bool
  parity   : Bool
  deriving DecidableEq, Repr

/-- The commands of the part, one constructor for each row of spec/opcode_table.json. -/
inductive Instr where
  /-- HOST_MEMORY_CYCLE_ARRIVAL (R40). -/
  | hostMemoryCycleArrival (c : MemoryCycle)
  /-- UNCLAIMED_IO_CYCLE (R39). -/
  | unclaimedIoCycle (dir : Direction) (c : IoCycle)
  /-- UNCLAIMED_CYCLE_END (R154). -/
  | unclaimedCycleEnd
  /-- HOST_WAIT_TIMEOUT (R51). -/
  | hostWaitTimeout
  /-- HOST_BOOT_READ_COMPLETE (R42). -/
  | hostBootReadComplete
  /-- HOST_WORK_READ_COMPLETE (R43). -/
  | hostWorkReadComplete
  /-- UNPOSTED_WRITE_COMPLETE (R49). -/
  | unpostedWriteComplete
  /-- DRAIN_COMPLETE (R47). -/
  | drainComplete
  /-- ACTIVATION (R63). -/
  | activation
  /-- ENGINE_BOOT_READ_COMPLETE (R67). -/
  | engineBootReadComplete
  /-- LINE_WRITE_COMPLETE (R69). -/
  | lineWriteComplete
  /-- VERIFY_READ_COMPLETE (R73). -/
  | verifyReadComplete
  /-- ARBITER_TICK (R179). -/
  | arbiterTick
  /-- GUARANTEE_EXPIRY (R106). -/
  | guaranteeExpiry
  /-- IDLE_EXPIRY (R108). -/
  | idleExpiry
  /-- AREQ_ASSERT (R122). -/
  | areqAssert
  /-- AREQ_DEASSERT (R107). -/
  | areqDeassert
  /-- AUX_CYCLE_START (R123). -/
  | auxCycleStart (c : AuxRequest)
  /-- AUX_ACCESS_COMPLETE (R126). -/
  | auxAccessComplete
  /-- ASTB_DROP (R128). -/
  | astbDrop
  /-- RESET_ASSERT (R55). -/
  | resetAssert
  /-- RESET_RELEASE (R14). -/
  | resetRelease (straps : Straps)
  /-- INDEX_PORT_WRITE (R161). -/
  | indexPortWrite (c : IoCycle)
  /-- STAGING_WRITE (R165). -/
  | stagingWrite (c : IoCycle)
  /-- POSTING_ENABLE_WRITE (R48). -/
  | postingEnableWrite (c : IoCycle)
  /-- HOST_WAIT_LIMIT_WRITE (R50). -/
  | hostWaitLimitWrite (c : IoCycle)
  /-- PARITY_TERMINATION_WRITE (R54). -/
  | parityTerminationWrite (c : IoCycle)
  /-- PARITY_CHECK_ENABLE_WRITE (R117). -/
  | parityCheckEnableWrite (c : IoCycle)
  /-- BOOT_ACCESS_TIME_WRITE (R114). -/
  | bootAccessTimeWrite (c : IoCycle)
  /-- GUARANTEE_WRITE (R110). -/
  | guaranteeWrite (c : IoCycle)
  /-- IDLE_WINDOW_WRITE (R110). -/
  | idleWindowWrite (c : IoCycle)
  /-- INTERRUPT_MASK_WRITE (R149). -/
  | interruptMaskWrite (c : IoCycle)
  /-- REGISTER_WRITE (R163). -/
  | registerWrite (c : IoCycle)
  /-- SET_WINDOW (R3). -/
  | setWindow (c : IoCycle)
  /-- COMMIT_ROUTE (R18). -/
  | commitRoute (c : IoCycle)
  /-- LOAD_ROUTE (R20). -/
  | loadRoute (c : IoCycle)
  /-- LOCK_ROUTING (R23). -/
  | lockRouting (c : IoCycle)
  /-- COMMIT_OVERLAY (R34). -/
  | commitOverlay (c : IoCycle)
  /-- LOAD_OVERLAY (R36). -/
  | loadOverlay (c : IoCycle)
  /-- SUBMIT_JOB (R58). -/
  | submitJob (c : IoCycle)
  /-- ABORT_ACTIVE (R80). -/
  | abortActive (c : IoCycle)
  /-- FLUSH_QUEUED (R82). -/
  | flushQueued (c : IoCycle)
  /-- ENGINE_RESET (R83). -/
  | engineReset (c : IoCycle)
  /-- MONITOR_START (R119). -/
  | monitorStart (c : IoCycle)
  /-- MONITOR_STOP (R119). -/
  | monitorStop (c : IoCycle)
  /-- SNAPSHOT_MONITOR (R120). -/
  | snapshotMonitor (c : IoCycle)
  /-- SET_AUX_WINDOW (R131). -/
  | setAuxWindow (c : IoCycle)
  /-- POP_FAULT (R142). -/
  | popFault (c : IoCycle)
  /-- CLEAR_OVERFLOW (R143). -/
  | clearOverflow (c : IoCycle)
  /-- POP_COMPLETION (R147). -/
  | popCompletion (c : IoCycle)
  /-- COMMIT_SELECT (R157). -/
  | commitSelect (c : IoCycle)
  /-- LOAD_SELECT (R158). -/
  | loadSelect (c : IoCycle)
  /-- SET_PORTS (R171). -/
  | setPorts (c : IoCycle)
  /-- UNKNOWN_COMMAND (R169). -/
  | unknownCommand (c : IoCycle)
  /-- ASTB_ASSERTION_DURING_ACCESS (R128). -/
  | astbAssertionDuringAccess
  deriving DecidableEq, Repr

end Sys2Proof
end

