-- ==== Sys2Proof/Decode.lean ====
section
/-! DEFINITION. The command a word of spec/opcode_table.json's bits spells. No row of that table gives bits (each row's
`fields` is empty and none has `fixed`), so no word spells a command. -/

namespace Sys2Proof

/-- The command the word `w` of `nbits` bits spells: none, since no row of the table gives bits. -/
def decodeTableWord (_nbits _w : Nat) : Option Instr := none

end Sys2Proof
end

