-- ==== Sys2Proof/Config.lean ====
section
/-! DEFINITION. What is fixed for the part: the identification values, the sizes the straps give the stores, what a
byte of either store that nothing has written reads as, and the one free value the manual leaves open. -/

namespace Sys2Proof.Config

/-- Family code of the identification register (R175, section 11.5). -/
def familyCode : Byte := 0xA6#8

/-- Revision of the identification register (R175, section 11.5). -/
def revision : Byte := 0x01#8

/-- Length of one block in bytes: 256 KiB (Table 0-3). -/
def blockBytes : Nat := 0x40000

/-- Length of one page in bytes: 4 KiB (Table 0-3). -/
def pageBytes : Nat := 0x1000

/-- Length of the managed window in bytes: 16 MiB (section 1.1). -/
def windowBytes : Nat := 0x1000000

/-- Store size of a WSIZE or BSIZE code: 2, 4, 8 or 16 MiB (Table 6-7). -/
def storeSize (code : BitVec 2) : Nat := 0x200000 * 2 ^ code.toNat

/-- What a byte of the Boot Store or the Work Store that the list of cells does not name reads as. DESIGN CHOICE,
unsafe (log entry 1): the contents of both stores belong to the system (00_scope.md, "Scope of This Manual"). -/
def unlistedByte : Byte := 0x00#8

/-- The stored parity bit of a Work Store byte that the list of parity cells does not name. DESIGN CHOICE, unsafe (log
entry 1): with `unlistedByte` it disagrees, so a byte nothing has written fails its check (R116, Note). -/
def unlistedParity : Bool := false

/-- FREE VALUE (log entry 2). Hardware reset abandons a Work Store write in progress, and each byte of it "then holds
either its old value or the written value" (R55, R85, R133). Whether the byte at Work offset `a` holds the written
value after the `n`th abandonment. -/
opaque abandonedByteLanded (n : Nat) (a : Nat) : Bool

end Sys2Proof.Config
end

