-- ==== Sys2Proof/Machine/Blocks.lean ====
section
/-! DEFINITION. The kinds of value the blocks of the part hold (Table 0-2): modes, routes, entries, records, stages and
the state of each block, as plain data. -/

namespace Sys2Proof.Machine

/-! ### Routing Unit (chapters 1 and 2) -/

/-- Routing modes (R6, Table 1-4). -/
inductive Mode where
  | pass | boot | copy | shadow | live | closed
  deriving DecidableEq, Repr

/-- Fault actions (R13, Table 1-6). -/
inductive FaultAction where
  | silent | record | recordAndError
  deriving DecidableEq, Repr

/-- One Routing Table entry (R6, Table 1-3). -/
structure RouteEntry where
  mode        : Mode
  bootBase    : Offset
  workBase    : Offset
  faultAction : FaultAction
  deriving DecidableEq, Repr

/-- Overlay scopes (R25). -/
inductive Scope where
  | reads | readsWrites
  deriving DecidableEq, Repr

/-- One overlay entry (R25, Table 2-1). -/
structure OverlayEntry where
  enabled  : Bool
  hostPage : BitVec 12
  workPage : Offset
  scope    : Scope
  hits     : BitVec 16
  deriving DecidableEq, Repr

/-- The route the RTU answers (R8, Table 1-5): a constructor for each kind, with the parts present for that kind. -/
inductive Route where
  | notClaimed
  | bootRead  (offset : Offset) (block : Fin 64)
  | workRead  (offset : Offset) (block : Fin 64) (overlay : Option (Fin 16))
  | workWrite (offset : Offset) (block : Fin 64) (overlay : Option (Fin 16))
  | discard   (block : Fin 64) (action : FaultAction)
  | closed    (block : Fin 64) (action : FaultAction)
  deriving DecidableEq, Repr

/-- The Routing Unit (Table 1-10, Table 2-6). -/
structure Rtu where
  windowBase   : HostAddr
  windowEnable : Bool
  routes       : Vector RouteEntry 64
  overlays     : Vector OverlayEntry 16
  pin          : Option (Fin 64)
  lock         : Bool
  deriving DecidableEq, Repr

/-! ### Host Bus Interface (chapter 3) -/

/-- States of a claimed memory cycle in progress (R41, Table 3-2); NONE is the absence of a cycle. -/
inductive HostStage where
  | awaitBoot | bootAccess | awaitDrain | awaitWork | workAccess | awaitSlot
  deriving DecidableEq, Repr

/-- The claimed memory cycle in progress: what R39 took, the parts of the route it carries (R10) and its state. -/
structure HostCycle where
  addr    : HostAddr
  dir     : Direction
  lanes   : Lanes
  data    : Word
  offset  : Offset
  block   : Fin 64
  overlay : Option (Fin 16)
  stage   : HostStage
  deriving DecidableEq, Repr

/-- One entry of the Write Post Buffer (R44, Table 3-3). The data of lanes not in the lane set is 0. -/
structure PostEntry where
  offset : Offset
  lanes  : Lanes
  data   : Word
  deriving DecidableEq, Repr

/-- The Host Bus Interface (Table 3-6). `unclaimed` is the noted cycle that another device answers (R40). -/
structure Hbi where
  cycle             : Option HostCycle
  unclaimed         : Bool
  buffer            : List PostEntry
  timerRunning      : Bool
  postingEnable     : Bool
  waitLimit         : Byte
  parityTermination : Bool
  deriving DecidableEq, Repr

/-! ### Transfer Engine (chapters 4 and 5) -/

/-- Job kinds (R57). -/
inductive JobKind where
  | copy | verify | fill
  deriving DecidableEq, Repr

/-- One job as SUBMIT_JOB accepted it (R57, R58). The completion action NONE is `none`. -/
structure Job where
  tag       : Byte
  kind      : JobKind
  block     : Fin 64
  firstLine : Nat
  lineCount : Nat
  pattern   : Word
  limit     : Byte
  action    : Option Mode
  deriving DecidableEq, Repr

/-- Stages of the line in progress (R66, Table 4-3), with the line data the engine holds in them (R67, R70). -/
inductive LineStage where
  | awaitBoot
  | bootRead
  | awaitWork (data : Line)
  | workWrite
  | workRead  (bootData : Line)
  deriving DecidableEq, Repr

/-- The active job (Table 4-3a). -/
structure ActiveJob where
  job          : Job
  bootSnapshot : Offset
  workSnapshot : Offset
  nextLine     : Nat
  stage        : LineStage
  linesDone    : Nat
  skipped      : Nat
  merged       : Nat
  mismatches   : Nat
  deriving DecidableEq, Repr

/-- Outcomes of a job (R78). -/
inductive JobOutcome where
  | done | failed | aborted
  deriving DecidableEq, Repr

/-- Reasons of an outcome (R78); `none` for DONE. -/
inductive Reason where
  | none | mismatchLimit | lockedTarget | abortCommand
  deriving DecidableEq, Repr

/-- Action results (R77, Table 4-5). -/
inductive ActionResult where
  | noneRequested | applied | refusedLocked | notApplied
  deriving DecidableEq, Repr

/-- A completion record (R78, Table 4-6). -/
structure CompletionRecord where
  tag          : Byte
  kind         : JobKind
  block        : Fin 64
  outcome      : JobOutcome
  reason       : Reason
  linesDone    : Nat
  skipped      : Nat
  merged       : Nat
  mismatches   : Nat
  actionResult : ActionResult
  deriving DecidableEq, Repr

/-- Engine states with what each holds (R60, Table 4-2). -/
inductive EngineState where
  | idle
  | running  (a : ActiveJob)
  | draining (a : ActiveJob)
  | retiring (r : CompletionRecord)
  deriving DecidableEq, Repr

/-- The Written-Byte Map when armed (R86, Table 5-1): the masks are listed by line number of the range, rising, and a
line that is not listed has the empty mask. -/
structure ByteMap where
  start : Offset
  lines : Nat
  masks : List (Nat × LineMask)
  deriving DecidableEq, Repr

/-- The Transfer Engine (Table 4-9). `map` is `none` when the Written-Byte Map is disarmed. -/
structure Txe where
  queue  : List Job
  engine : EngineState
  map    : Option ByteMap
  deriving DecidableEq, Repr

/-! ### Store ports (chapter 6) -/

/-- Requesters of the Work Store port (R100). -/
inductive Requester where
  | hostPath | engine | aux
  deriving DecidableEq, Repr

/-- The Work Store access in progress (R100), with what it fixed at its start: the parity-check enable of a read (R117)
and the bytes of a line write (R69). `dropped` is set when ENGINE_RESET has discarded the access's job (R84). -/
inductive WorkAccess where
  | drain
  | hostRead  (check : Bool)
  | hostWrite
  | lineWrite (offset : Offset) (data : Line) (mask : LineMask) (dropped : Bool)
  | lineRead  (offset : Offset) (check : Bool) (dropped : Bool)
  | aux       (check : Bool)
  deriving DecidableEq, Repr

/-- The Work Store Controller: the parity-check enable (R117) and the access in progress (R100). -/
structure Wsc where
  parityCheck : Bool
  access      : Option WorkAccess
  deriving DecidableEq, Repr

/-- The guarantee timer (R100, R105). `left` counts the ticks still to come; `running 0` is the guarantee of length 0,
which expires at an access start or a release, not at a tick. -/
inductive GuaranteeTimer where
  | stopped
  | running (left : Nat)
  | expired
  deriving DecidableEq, Repr

/-- The idle timer (R100, R108): stopped, or running with `left` ticks still to come. -/
inductive IdleTimer where
  | stopped
  | running (left : Nat)
  deriving DecidableEq, Repr

/-- One value for each requester. -/
structure PerRequester (α : Type) where
  hostPath : α
  engine   : α
  aux      : α
  deriving DecidableEq, Repr

/-- The four counters of one requester (R118, Table 6-8). -/
structure Counters where
  grants      : BitVec 16
  waitUnits   : BitVec 24
  forfeits    : BitVec 16
  preemptions : BitVec 16
  deriving DecidableEq, Repr

/-- The Work Store Port Arbiter (R100, R110, R118). An owner NONE is `none`. -/
structure Wpa where
  owner      : Option Requester
  lastOwner  : Requester
  guarantee  : GuaranteeTimer
  idle       : IdleTimer
  guarantees : PerRequester Byte
  idleWindows : PerRequester Byte
  counting   : Bool
  live       : PerRequester Counters
  snapshot   : PerRequester Counters
  deriving DecidableEq, Repr

/-- Requesters of the Boot Store port (R113). -/
inductive BootUser where
  | hostPath | engine
  deriving DecidableEq, Repr

/-- The Boot Store access in progress: the current accessor, its offset, whether ENGINE_RESET has discarded its job
(R84), and the duration fixed at its start in ns (R114, Table 6-6). -/
structure BootAccess where
  user       : BootUser
  offset     : Offset
  dropped    : Bool
  durationNs : Nat
  deriving DecidableEq, Repr

/-- The Boot Store Controller (R113, R114). The accessor NONE is `none`. -/
structure Bsc where
  accessor      : Option BootAccess
  hostRequest   : Option Offset
  engineRequest : Option Offset
  accessTime    : BitVec 3
  deriving DecidableEq, Repr

/-! ### Auxiliary Master Port (chapter 7) -/

/-- The current aux cycle as sampled at its start (R121, R123). -/
structure AuxCycle where
  offset : Offset
  dir    : Direction
  lanes  : Lanes
  data   : Word
  deriving DecidableEq, Repr

/-- The answer of an aux cycle (R121): ADONE, with AERR or without, and for a read the data driven on AD. -/
structure AuxAnswer where
  error : Bool
  data  : Option Word
  deriving DecidableEq, Repr

/-- Cycle states of the AMP (Table 7-2). -/
inductive AuxState where
  | noCycle
  | access   (c : AuxCycle)
  | answered (c : AuxCycle) (answer : AuxAnswer)
  deriving DecidableEq, Repr

/-- The Auxiliary Master Port (Table 7-5), with the levels of its inputs AREQ and ASTB. -/
structure Amp where
  windowBase  : Offset
  windowLimit : Offset
  cycle       : AuxState
  areq        : Bool
  astb        : Bool
  deriving DecidableEq, Repr

/-! ### Reporting Unit (chapter 8) -/

/-- Fault kinds (R135). -/
inductive FaultKind where
  | discardedWrite | closedAccess | workParity | verifyMismatch | hostWaitTimeout | auxRange | auxUngranted
  deriving DecidableEq, Repr

/-- What a timed-out cycle awaited (R135, Table 3-2). -/
inductive Awaited where
  | bootPort | workPort | postDrain | postSlot
  deriving DecidableEq, Repr

/-- The mismatch detail of a VERIFY_MISMATCH record (R73). -/
structure MismatchDetail where
  position : BitVec 5
  bootByte : Byte
  workByte : Byte
  deriving DecidableEq, Repr

/-- A fault record (R135, Table 8-2); an absent field is `none`. -/
structure FaultRecord where
  kind      : FaultKind
  source    : Requester
  address   : HostAddr
  direction : Option Direction
  block     : Option (Fin 64)
  tag       : Option Byte
  lanes     : Option Lanes
  detail    : Option MismatchDetail
  awaited   : Option Awaited
  repeats   : Byte
  deriving DecidableEq, Repr

/-- The Reporting Unit (R134). A set bit of the mask is an unmasked cause, in the bit order of section 11.5. -/
structure Rpu where
  faults      : List FaultRecord
  overflow    : Bool
  lost        : Byte
  completions : List CompletionRecord
  mask        : BitVec 4
  deriving DecidableEq, Repr

/-! ### Select Decoder (chapter 9) -/

/-- Address spaces of a select record (R151) and of a host cycle (R39). -/
inductive Space where
  | memory | io
  deriving DecidableEq, Repr

/-- Qualifiers of a select record (R151). -/
inductive Qualifier where
  | reads | writes | either
  deriving DecidableEq, Repr

/-- Polarities of a select record (R151). -/
inductive Polarity where
  | activeLow | activeHigh
  deriving DecidableEq, Repr

/-- One select record (R151, Table 9-1). -/
structure SelectRecord where
  enabled       : Bool
  space         : Space
  sizeCode      : BitVec 5
  base          : HostAddr
  qualifier     : Qualifier
  polarity      : Polarity
  unclaimedOnly : Bool
  deriving DecidableEq, Repr

/-- The Select Decoder (Table 9-5); the levels of its lines stand with the other pins. -/
structure Sdc where
  records : Vector SelectRecord 4
  deriving DecidableEq, Repr

/-! ### Register Window (chapter 10) -/

/-- Result codes (R168). -/
inductive ResultCode where
  | ok | badIndex | badField | locked | pinned | queueFull | empty | nothingActive | unknownCommand
  deriving DecidableEq, Repr

/-- The route staging record (R17). -/
structure RouteStaging where
  mode        : Byte
  bootBase    : Offset
  workBase    : Offset
  faultAction : Byte
  deriving DecidableEq, Repr

/-- The overlay staging record (R33). -/
structure OverlayStaging where
  enabled  : Byte
  hostPage : BitVec 16
  workPage : Offset
  scope    : Byte
  hits     : BitVec 16
  deriving DecidableEq, Repr

/-- The select staging record (R156). -/
structure SelectStaging where
  enabled       : Byte
  space         : Byte
  sizeCode      : BitVec 5
  base          : HostAddr
  qualifier     : Byte
  polarity      : Byte
  unclaimedOnly : Byte
  deriving DecidableEq, Repr

/-- The job staging record (R57). -/
structure JobStaging where
  tag       : Byte
  kind      : Byte
  block     : Byte
  firstLine : BitVec 16
  lineCount : BitVec 16
  pattern   : Word
  limit     : Byte
  action    : Byte
  deriving DecidableEq, Repr

/-- The window staging record (R3). -/
structure WindowStaging where
  base   : HostAddr
  enable : Byte
  deriving DecidableEq, Repr

/-- The aux window staging record (R130). -/
structure AuxStaging where
  base  : Offset
  limit : Offset
  deriving DecidableEq, Repr

/-- The seven staging records (R165, Table 10-4). -/
structure Staging where
  route   : RouteStaging
  overlay : OverlayStaging
  select  : SelectStaging
  job     : JobStaging
  window  : WindowStaging
  aux     : AuxStaging
  ports   : BitVec 16
  deriving DecidableEq, Repr

/-- The Register Window (R159, Table 10-1). -/
structure Rgw where
  portBase    : BitVec 16
  index       : Byte
  argument    : Byte
  lastCommand : Byte
  result      : ResultCode
  resultArg   : Byte
  staging     : Staging
  deriving DecidableEq, Repr

/-! ### Output pins -/

/-- The data of the four lanes of a host read; `none` for a lane the manual gives no value. -/
abbrev LaneData := Vector (Option Byte) 4

/-- How the part ended a host cycle: bus error in place of ready or not, and the data lanes of a read. -/
structure HostAnswer where
  busError : Bool
  data     : Option LaneData
  deriving DecidableEq, Repr

/-- The outputs of the part. `answer` is HRDY, HBERR and HD as the part gave them for the last host cycle: `none` while
it has given none. `sel` holds the levels of SEL3 to SEL0 (a set bit is high) and `selCycle` the levels decided for the
last host cycle, from its arrival to its end (R154). `int` is set when INT is asserted (driven low, R149). `ad` is what
the AMP drives on AD. -/
structure Pins where
  answer   : Option HostAnswer
  sel      : BitVec 4
  selCycle : BitVec 4
  int      : Bool
  agnt     : Bool
  adone    : Bool
  aerr     : Bool
  ad       : Option Word
  deriving DecidableEq, Repr

end Sys2Proof.Machine
end

