-- ==== Sys2Proof/Machine/Defaults.lean ====
section
/-! DEFINITION. The values the release of hardware reset loads, as functions of the straps (R1, R14, R15, R25, R110,
R121, R151, R159, R165). -/

namespace Sys2Proof

open Machine

/-- Size of the Boot Store for the straps (R115). -/
def Straps.bootSize (st : Straps) : Nat := Config.storeSize st.bsize

/-- Size of the Work Store for the straps (R115). -/
def Straps.workSize (st : Straps) : Nat := Config.storeSize st.wsize

/-- The number of boot blocks a BOOTSPAN code chooses (R15, Table 1-7). -/
def Machine.bootSpanBlocks (code : BitVec 2) : Nat :=
  match code.toNat with
  | 0 => 0
  | 1 => 1
  | 2 => 2
  | _ => 4

/-- Whether block `b` starts in mode BOOT (R15): the highest blocks with WINPOS = 1, the lowest with WINPOS = 0. -/
def Straps.isBootBlock (st : Straps) (b : Nat) : Bool :=
  if st.winpos then decide (64 ≤ b + bootSpanBlocks st.bootspan) else decide (b < bootSpanBlocks st.bootspan)

/-- The default Routing Table entry of block `b` (R14). -/
def Straps.defaultRoute (st : Straps) (b : Fin 64) : RouteEntry :=
  { mode := if st.isBootBlock b.val then .boot else .pass
    bootBase := BitVec.ofNat 24 (b.val * Config.blockBytes % st.bootSize)
    workBase := BitVec.ofNat 24 (b.val * Config.blockBytes % st.workSize)
    faultAction := .record }

/-- The window base after hardware reset (R1, Table 1-1). -/
def Straps.windowBase (st : Straps) : HostAddr := if st.winpos then 0xFF000000#32 else 0#32

/-- An overlay entry after hardware reset (R25). -/
def Machine.defaultOverlay : OverlayEntry :=
  { enabled := false, hostPage := 0#12, workPage := 0#24, scope := .reads, hits := 0#16 }

/-- A select record after hardware reset (R151). -/
def Machine.defaultSelect : SelectRecord :=
  { enabled := false, space := .memory, sizeCode := 4#5, base := 0#32, qualifier := .either, polarity := .activeLow,
    unclaimedOnly := false }

/-- The staging records after hardware reset: every field zero (R165). -/
def Machine.zeroStaging : Staging :=
  { route := { mode := 0#8, bootBase := 0#24, workBase := 0#24, faultAction := 0#8 }
    overlay := { enabled := 0#8, hostPage := 0#16, workPage := 0#24, scope := 0#8, hits := 0#16 }
    select := { enabled := 0#8, space := 0#8, sizeCode := 0#5, base := 0#32, qualifier := 0#8, polarity := 0#8,
                unclaimedOnly := 0#8 }
    job := { tag := 0#8, kind := 0#8, block := 0#8, firstLine := 0#16, lineCount := 0#16, pattern := 0#32,
             limit := 0#8, action := 0#8 }
    window := { base := 0#32, enable := 0#8 }
    aux := { base := 0#24, limit := 0#24 }
    ports := 0#16 }

/-- A requester's counters at zero (R118). -/
def Machine.zeroCounters : Counters := { grants := 0#16, waitUnits := 0#24, forfeits := 0#16, preemptions := 0#16 }

/-- The counters of the three requesters at zero (R118). -/
def Machine.zeroMonitor : PerRequester Counters := { hostPath := zeroCounters, engine := zeroCounters, aux := zeroCounters }

/-- The Routing Unit at the release of hardware reset (R1, R14, R25). -/
def Straps.rtu (st : Straps) : Rtu :=
  { windowBase := st.windowBase, windowEnable := true
    routes := Vector.ofFn (st.defaultRoute)
    overlays := Vector.ofFn fun _ => defaultOverlay
    pin := none, lock := false }

/-- The Host Bus Interface at the release of hardware reset (R55). -/
def Machine.defaultHbi : Hbi :=
  { cycle := none, unclaimed := false, buffer := [], timerRunning := false, postingEnable := true, waitLimit := 0#8,
    parityTermination := false }

/-- The Transfer Engine at the release of hardware reset (R85). -/
def Machine.defaultTxe : Txe := { queue := [], engine := .idle, map := none }

/-- The arbiter at the release of hardware reset (R100, R110, R118). -/
def Machine.defaultWpa : Wpa :=
  { owner := none, lastOwner := .aux, guarantee := .stopped, idle := .stopped
    guarantees := { hostPath := 16#8, engine := 8#8, aux := 32#8 }
    idleWindows := { hostPath := 4#8, engine := 2#8, aux := 8#8 }
    counting := false, live := zeroMonitor, snapshot := zeroMonitor }

/-- The Boot Store Controller at the release of hardware reset (R113, R114). -/
def Machine.defaultBsc : Bsc := { accessor := none, hostRequest := none, engineRequest := none, accessTime := 7#3 }

/-- The Auxiliary Master Port at the release of hardware reset (R121, R133); the levels of AREQ and ASTB belong to the
device that drives them. -/
def Straps.amp (st : Straps) (areq astb : Bool) : Amp :=
  { windowBase := 0#24, windowLimit := BitVec.ofNat 24 (st.workSize - Config.pageBytes), cycle := .noCycle
    areq := areq, astb := astb }

/-- The Reporting Unit at the release of hardware reset (R134, R150). -/
def Machine.defaultRpu : Rpu := { faults := [], overflow := false, lost := 0#8, completions := [], mask := 0#4 }

/-- The Register Window at the release of hardware reset (R159). -/
def Straps.rgw (st : Straps) : Rgw :=
  { portBase := if st.portsel then 0x1D4#16 else 0x2D4#16, index := 0#8, argument := 0#8, lastCommand := 0#8
    result := .ok, resultArg := 0#8, staging := zeroStaging }

/-- The outputs after hardware reset: nothing asserted, the select lines high (R112, R133, R150, R155). -/
def Machine.defaultPins : Pins :=
  { answer := none, sel := 0xF#4, selCycle := 0xF#4, int := false, agnt := false, adone := false, aerr := false,
    ad := none }

end Sys2Proof
end

