-- ==== Sys2Proof/Machine/State.lean ====
section
/-! DEFINITION. The state of the part: its ten blocks (Table 0-2), the two external memories, the sampled straps, the
level of RESET, the output pins, and the queue of commands that wait; the reasons a command can stop; the state after
reset. -/

namespace Sys2Proof.Machine

/-- The state of the part, with the two memories on its store ports. -/
structure State where
  /-- Host Bus Interface (chapter 3). -/
  hbi        : Hbi
  /-- Routing Unit (chapters 1 and 2). -/
  rtu        : Rtu
  /-- Transfer Engine with the Written-Byte Map (chapters 4 and 5). -/
  txe        : Txe
  /-- Work Store Controller (R117) with the Work Store access in progress. -/
  wsc        : Wsc
  /-- Work Store Port Arbiter (chapter 6). -/
  wpa        : Wpa
  /-- Boot Store Controller (R113, R114). -/
  bsc        : Bsc
  /-- Auxiliary Master Port (chapter 7). -/
  amp        : Amp
  /-- Reporting Unit (chapter 8). -/
  rpu        : Rpu
  /-- Select Decoder (chapter 9). -/
  sdc        : Sdc
  /-- Register Window (chapter 10). -/
  rgw        : Rgw
  /-- The strap register: the straps as sampled at the release of hardware reset (R174). -/
  straps     : Straps
  /-- RESET is asserted. -/
  inReset    : Bool
  /-- The outputs of the part. -/
  pins       : Pins
  /-- The contents of the Boot Store, in the canonical form of `Memory.wf`. No command changes them. -/
  boot       : List Host.Cell
  /-- The data bytes of the Work Store, in the canonical form of `Memory.wf`. -/
  work       : List Host.Cell
  /-- The stored parity bits of the Work Store (R116), in the canonical form of `ParityBits.wf`. -/
  workParity : List (Nat × Bool)
  /-- MODEL'S OWN (log entry 2): how many times hardware reset has been asserted. The free value of R55 is read at it. -/
  freeCount  : Nat
  /-- The commands that wait, first in, first out. -/
  pending    : List Instr
  deriving DecidableEq, Repr

/-- Why the machine stops. -/
inductive Fault where
  /-- Raised by every command that arrives on a host cycle while the previous host cycle has not ended. The manual says
  it does not happen ("a cycle arrives only after the previous one has ended", section 3.1). Safe: the model stops. -/
  | hostBusOccupied
  deriving DecidableEq, Repr

/-- Why a command has no meaning in a state. -/
inductive Refusal where
  /-- The command of this mnemonic has no meaning yet. Safe. -/
  | notModelled (mnemonic : String)
  /-- Raised by an event that cannot come about in the state: a completion of an access that is not in progress, the
  expiry of a timer that is not due, a pin that already has the level. The manual has no such event. Safe. -/
  | notDue
  /-- Raised by a register window command whose I/O cycle does not spell it: the cycle reaches another port, index or
  command code than the row's, or no port while RESET is asserted. Safe: what the cycle does is another row's. -/
  | cycleSpellsAnother
  /-- Raised by a host cycle that carries no lane; the host bus carries none (R39). Safe. -/
  | noLanes
  deriving DecidableEq, Repr

/-- The part and its pins right after hardware reset is released with the straps `st`, AREQ deasserted and ASTB
deasserted: every register at the value the manual states, nothing listed in either store, no command waiting. -/
def State.afterReset (st : Straps) : State :=
  { hbi := defaultHbi
    rtu := st.rtu
    txe := defaultTxe
    wsc := { parityCheck := false, access := none }
    wpa := defaultWpa
    bsc := defaultBsc
    amp := st.amp false false
    rpu := defaultRpu
    sdc := { records := Vector.ofFn fun _ => defaultSelect }
    rgw := st.rgw
    straps := st
    inReset := false
    pins := defaultPins
    boot := []
    work := []
    workParity := []
    freeCount := 0
    pending := [] }

/-- The straps of the state after reset: those of the board chapter 12 uses throughout. DESIGN CHOICE (log entry 3). -/
def resetStraps : Straps :=
  { winpos := true, bootspan := 0b10#2, wsize := 0b01#2, bsize := 0b10#2, portsel := false, parity := true }

/-- The machine right after reset. -/
def State.reset : State := State.afterReset resetStraps

end Sys2Proof.Machine
end

