-- ==== Sys2Proof/Machine/Memory.lean ====
section
/-! DEFINITION. Sparse contents by address in ONE canonical form (addresses strictly rising, no cell equal to what an
unlisted address holds), for the bytes of the two stores, the parity bits of the Work Store and the masks of the
Written-Byte Map; and the one home of each of their accesses. -/

namespace Sys2Proof.Machine

/-- What the cells give at key `a`; `d` where no cell names it. -/
def Sparse.read {α : Type} (d : α) : List (Nat × α) → Nat → α
  | [], _ => d
  | (k, v) :: rest, a => if k = a then v else Sparse.read d rest a

/-- The cells with the value at key `a` replaced, keeping the order of the keys; a value equal to `d` is not listed. -/
def Sparse.write {α : Type} [DecidableEq α] (d : α) : List (Nat × α) → Nat → α → List (Nat × α)
  | [], a, v => if v = d then [] else [(a, v)]
  | (k, w) :: rest, a, v =>
    if a < k then (if v = d then (k, w) :: rest else (a, v) :: (k, w) :: rest)
    else if a = k then (if v = d then rest else (a, v) :: rest)
    else (k, w) :: Sparse.write d rest a v

/-- The keys are all at least `lo` and strictly rising, and no cell holds `d`. -/
def Sparse.wfFrom {α : Type} [DecidableEq α] (d : α) : Nat → List (Nat × α) → Bool
  | _, [] => true
  | lo, (k, v) :: rest => decide (lo ≤ k) && decide (v ≠ d) && Sparse.wfFrom d (k + 1) rest

/-- The canonical form. -/
def Sparse.wf {α : Type} [DecidableEq α] (d : α) (cells : List (Nat × α)) : Bool := Sparse.wfFrom d 0 cells

/-- The byte of a store at an offset. -/
def Memory.read (m : List Host.Cell) (a : Nat) : Byte := Sparse.read Config.unlistedByte m a

/-- The store with one byte replaced. -/
def Memory.write (m : List Host.Cell) (a : Nat) (b : Byte) : List Host.Cell := Sparse.write Config.unlistedByte m a b

/-- The canonical form of a store's contents. -/
def Memory.wf (m : List Host.Cell) : Bool := Sparse.wf Config.unlistedByte m

/-- The stored parity bit at a Work offset. -/
def ParityBits.read (m : List (Nat × Bool)) (a : Nat) : Bool := Sparse.read Config.unlistedParity m a

/-- The parity bits with one replaced. -/
def ParityBits.write (m : List (Nat × Bool)) (a : Nat) (p : Bool) : List (Nat × Bool) :=
  Sparse.write Config.unlistedParity m a p

/-- The canonical form of the parity bits. -/
def ParityBits.wf (m : List (Nat × Bool)) : Bool := Sparse.wf Config.unlistedParity m

/-- The mask of a line of the Written-Byte Map; empty where none is listed (R86). -/
def LineMasks.read (m : List (Nat × LineMask)) (line : Nat) : LineMask := Sparse.read 0#32 m line

/-- The masks with one line's replaced. -/
def LineMasks.write (m : List (Nat × LineMask)) (line : Nat) (v : LineMask) : List (Nat × LineMask) :=
  Sparse.write 0#32 m line v

/-- The canonical form of the masks. -/
def LineMasks.wf (m : List (Nat × LineMask)) : Bool := Sparse.wf (0#32 : LineMask) m

/-! ### Bytes of wider values -/

/-- Byte `k` of a value, byte 0 least significant (R164, R176; lane `k` of a word). -/
def getByte {n : Nat} (v : BitVec n) (k : Nat) : Byte := (v >>> (8 * k)).setWidth 8

/-- The value with byte `k` replaced; bits the value does not have are not stored (R165). -/
def setByte {n : Nat} (v : BitVec n) (k : Nat) (b : Byte) : BitVec n :=
  (v &&& ~~~(((0xFF#8).setWidth n) <<< (8 * k))) ||| ((b.setWidth n) <<< (8 * k))

/-- Whether a lane set carries lane `k`. -/
def carries (lanes : Lanes) (k : Nat) : Bool := lanes.getLsbD k

/-- A word of four bytes, byte 0 on lane 0. -/
def wordOf (f : Nat → Byte) : Word := f 3 ++ f 2 ++ f 1 ++ f 0

/-- The data of the carried lanes, with 0 on the others. -/
def carriedData (lanes : Lanes) (data : Word) : Word :=
  wordOf fun k => if carries lanes k then getByte data k else 0#8

/-- The 32 bytes of the line at an offset of a store. -/
def readLine (m : List Host.Cell) (off : Offset) : Line := Vector.ofFn fun k => Memory.read m (off.toNat + k.val)

/-- The data of a FILL line: the pattern repeated eight times, least significant byte on lane 0 (R70). -/
def patternLine (pattern : Word) : Line := Vector.ofFn fun k => getByte pattern (k.val % 4)

/-- Byte `k` of a line, 0 beyond its 32 bytes. -/
def lineByte (l : Line) (k : Nat) : Byte := l.toList.getD k 0#8

/-! ### Parity (R116, R117) -/

/-- Whether the number of ones of a byte is odd. -/
def oddOnes (b : Byte) : Bool :=
  (List.range 8).foldl (fun acc k => acc ^^ b.getLsbD k) false

/-- The parity bit that makes the number of ones of the nine bits odd (R116). -/
def parityBit (b : Byte) : Bool := !oddOnes b

/-- Whether the byte at a Work offset disagrees with its stored parity bit (R117). -/
def State.parityFails (s : State) (a : Nat) : Bool :=
  ParityBits.read s.workParity a != parityBit (Memory.read s.work a)

/-! ### Writes of the Work Store Controller -/

/-- One byte written into the Work Store, with fresh parity where the PARITY strap is 1 (R116). -/
def State.writeWorkByte (a : Nat) (b : Byte) (s : State) : State :=
  { s with
    work := Memory.write s.work a b
    workParity := if s.straps.parity then ParityBits.write s.workParity a (parityBit b) else s.workParity }

/-- The bytes `k` below `n` with `sel k` written at `off + k`; the others keep their data and parity (R116). -/
def State.writeWork (off : Nat) (sel : Nat → Bool) (dat : Nat → Byte) : Nat → State → State
  | 0, s => s
  | n + 1, s =>
    let s' := State.writeWork off sel dat n s
    if sel n then s'.writeWorkByte (off + n) (dat n) else s'

/-- The carried lanes of a word written at a Work offset: a drain, an unposted host write or an aux write. -/
def State.writeLanes (off : Offset) (lanes : Lanes) (data : Word) (s : State) : State :=
  s.writeWork off.toNat (carries lanes) (getByte data) 4

/-- The unmarked bytes of a line written at a Work offset (R69). -/
def State.writeLine (off : Offset) (mask : LineMask) (data : Line) (s : State) : State :=
  s.writeWork off.toNat (fun k => !mask.getLsbD k) (lineByte data) 32

end Sys2Proof.Machine
end

