-- ==== Sys2Proof/Machine/Operands.lean ====
section
/-! DEFINITION. What a cycle carries, as the part takes it: the address of a host or aux cycle, the ports an I/O cycle
reaches (R160), the index it selects and the byte it writes, and the data lanes of an answer. -/

namespace Sys2Proof.Machine

/-- The host address of the aligned word the lines HA31 to HA2 name. -/
def wordAddr (ha : BitVec 30) : HostAddr := ha ++ 0#2

/-- The Work offset of the word the lines AA23 to AA2 name (R123). -/
def auxOffset (aa : BitVec 22) : Offset := aa ++ 0#2

/-! ### The two ports (R159, R160) -/

/-- The lane of the index port: its I/O address modulo 4 (R160). -/
def indexLane (portBase : BitVec 16) : Nat := portBase.toNat % 4

/-- The lane of the data port, the one above (R160). -/
def dataLane (portBase : BitVec 16) : Nat := indexLane portBase + 1

/-- Whether the aligned word of an I/O cycle holds the two ports. -/
def atPorts (portBase : BitVec 16) (ha : BitVec 30) : Bool := ha.toNat == portBase.toNat / 4

/-- Whether an I/O cycle reaches the index port (R160). -/
def State.reachesIndex (s : State) (c : IoCycle) : Bool :=
  atPorts s.rgw.portBase c.ha && carries c.lanes (indexLane s.rgw.portBase)

/-- Whether an I/O cycle reaches the data port (R160). -/
def State.reachesData (s : State) (c : IoCycle) : Bool :=
  atPorts s.rgw.portBase c.ha && carries c.lanes (dataLane s.rgw.portBase)

/-- Whether the part claims an I/O cycle (R39, R160). -/
def State.claimsIo (s : State) (c : IoCycle) : Bool :=
  !s.inReset && (s.reachesIndex c || s.reachesData c)

/-- The byte an I/O cycle carries on the index lane. -/
def State.indexByte (s : State) (c : IoCycle) : Byte := getByte c.data (indexLane s.rgw.portBase)

/-- The byte an I/O cycle carries on the data lane. -/
def State.dataByte (s : State) (c : IoCycle) : Byte := getByte c.data (dataLane s.rgw.portBase)

/-- The index that selects the register a write of the data lane reaches: the byte of the index lane where the cycle
carries both lanes, otherwise the index as it stands (R160). -/
def State.selectedIndex (s : State) (c : IoCycle) : Byte :=
  if s.reachesIndex c then s.indexByte c else s.rgw.index

/-- What an I/O write cycle writes through the data port: the selected index and the byte; `none` where the part does
not claim the cycle or it does not reach the data port. -/
def State.dataPortWrite (s : State) (c : IoCycle) : Option (Byte × Byte) :=
  if !s.inReset && s.reachesData c then some (s.selectedIndex c, s.dataByte c) else none

/-! ### Index classes (R162, Table 11-1) -/

/-- Classes of index (Table 10-2). -/
inductive IndexClass where
  | identification | strap | command | argument | result | status | setting | staging | view | monitor | unimplemented
  deriving DecidableEq, Repr

/-- The class Table 11-1 gives an index. -/
def indexClass (i : Byte) : IndexClass :=
  let n := i.toNat
  if n ≤ 0x01 then .identification
  else if n ≤ 0x03 then .strap
  else if n = 0x04 then .command
  else if n = 0x05 then .argument
  else if n ≤ 0x07 then .result
  else if n ≤ 0x13 then .status
  else if 0x18 ≤ n ∧ n ≤ 0x23 then .setting
  else if 0x28 ≤ n ∧ n ≤ 0x38 then .staging
  else if 0x40 ≤ n ∧ n ≤ 0x49 then .staging
  else if 0x50 ≤ n ∧ n ≤ 0x5C then .staging
  else if 0x60 ≤ n ∧ n ≤ 0x64 then .staging
  else if 0x68 ≤ n ∧ n ≤ 0x6D then .staging
  else if 0x70 ≤ n ∧ n ≤ 0x71 then .staging
  else if 0x80 ≤ n ∧ n ≤ 0x9D then .view
  else if 0xA0 ≤ n ∧ n ≤ 0xBA then .monitor
  else .unimplemented

/-- Whether a code is assigned to a command (Table 11-6). -/
def assignedCode (b : Byte) : Bool :=
  decide (b ∈ [0x11#8, 0x12#8, 0x13#8, 0x14#8, 0x15#8, 0x1C#8, 0x21#8, 0x22#8, 0x23#8, 0x31#8, 0x32#8, 0x33#8, 0x3E#8,
    0x41#8, 0x42#8, 0x43#8, 0x51#8, 0x52#8, 0x53#8, 0x61#8])

/-! ### Bytes of the staging records (Table 11-4) -/

/-- Byte `k` of the route staging record. -/
def RouteStaging.byte (r : RouteStaging) (k : Nat) : Byte :=
  if k = 0 then r.mode
  else if k ≤ 3 then getByte r.bootBase (k - 1)
  else if k ≤ 6 then getByte r.workBase (k - 4)
  else r.faultAction

/-- The route staging record with byte `k` stored. -/
def RouteStaging.store (r : RouteStaging) (k : Nat) (b : Byte) : RouteStaging :=
  if k = 0 then { r with mode := b }
  else if k ≤ 3 then { r with bootBase := setByte r.bootBase (k - 1) b }
  else if k ≤ 6 then { r with workBase := setByte r.workBase (k - 4) b }
  else { r with faultAction := b }

/-- Byte `k` of the overlay staging record. -/
def OverlayStaging.byte (r : OverlayStaging) (k : Nat) : Byte :=
  if k = 0 then r.enabled
  else if k ≤ 2 then getByte r.hostPage (k - 1)
  else if k ≤ 5 then getByte r.workPage (k - 3)
  else if k = 6 then r.scope
  else getByte r.hits (k - 7)

/-- The overlay staging record with byte `k` stored. -/
def OverlayStaging.store (r : OverlayStaging) (k : Nat) (b : Byte) : OverlayStaging :=
  if k = 0 then { r with enabled := b }
  else if k ≤ 2 then { r with hostPage := setByte r.hostPage (k - 1) b }
  else if k ≤ 5 then { r with workPage := setByte r.workPage (k - 3) b }
  else if k = 6 then { r with scope := b }
  else { r with hits := setByte r.hits (k - 7) b }

/-- Byte `k` of the select staging record; the size code uses bits 4 to 0 of its byte. -/
def SelectStaging.byte (r : SelectStaging) (k : Nat) : Byte :=
  if k = 0 then r.enabled
  else if k = 1 then r.space
  else if k = 2 then r.sizeCode.setWidth 8
  else if k ≤ 6 then getByte r.base (k - 3)
  else if k = 7 then r.qualifier
  else if k = 8 then r.polarity
  else r.unclaimedOnly

/-- The select staging record with byte `k` stored. -/
def SelectStaging.store (r : SelectStaging) (k : Nat) (b : Byte) : SelectStaging :=
  if k = 0 then { r with enabled := b }
  else if k = 1 then { r with space := b }
  else if k = 2 then { r with sizeCode := b.setWidth 5 }
  else if k ≤ 6 then { r with base := setByte r.base (k - 3) b }
  else if k = 7 then { r with qualifier := b }
  else if k = 8 then { r with polarity := b }
  else { r with unclaimedOnly := b }

/-- Byte `k` of the job staging record. -/
def JobStaging.byte (r : JobStaging) (k : Nat) : Byte :=
  if k = 0 then r.tag
  else if k = 1 then r.kind
  else if k = 2 then r.block
  else if k ≤ 4 then getByte r.firstLine (k - 3)
  else if k ≤ 6 then getByte r.lineCount (k - 5)
  else if k ≤ 10 then getByte r.pattern (k - 7)
  else if k = 11 then r.limit
  else r.action

/-- The job staging record with byte `k` stored. -/
def JobStaging.store (r : JobStaging) (k : Nat) (b : Byte) : JobStaging :=
  if k = 0 then { r with tag := b }
  else if k = 1 then { r with kind := b }
  else if k = 2 then { r with block := b }
  else if k ≤ 4 then { r with firstLine := setByte r.firstLine (k - 3) b }
  else if k ≤ 6 then { r with lineCount := setByte r.lineCount (k - 5) b }
  else if k ≤ 10 then { r with pattern := setByte r.pattern (k - 7) b }
  else if k = 11 then { r with limit := b }
  else { r with action := b }

/-- Byte `k` of the window staging record. -/
def WindowStaging.byte (r : WindowStaging) (k : Nat) : Byte := if k ≤ 3 then getByte r.base k else r.enable

/-- The window staging record with byte `k` stored. -/
def WindowStaging.store (r : WindowStaging) (k : Nat) (b : Byte) : WindowStaging :=
  if k ≤ 3 then { r with base := setByte r.base k b } else { r with enable := b }

/-- Byte `k` of the aux window staging record. -/
def AuxStaging.byte (r : AuxStaging) (k : Nat) : Byte := if k ≤ 2 then getByte r.base k else getByte r.limit (k - 3)

/-- The aux window staging record with byte `k` stored. -/
def AuxStaging.store (r : AuxStaging) (k : Nat) (b : Byte) : AuxStaging :=
  if k ≤ 2 then { r with base := setByte r.base k b } else { r with limit := setByte r.limit (k - 3) b }

/-- The staging byte at an index of class staging (Table 11-1). -/
def Staging.byte (st : Staging) (i : Byte) : Byte :=
  let n := i.toNat
  if n ≤ 0x2F then st.route.byte (n - 0x28)
  else if n ≤ 0x38 then st.overlay.byte (n - 0x30)
  else if n ≤ 0x49 then st.select.byte (n - 0x40)
  else if n ≤ 0x5C then st.job.byte (n - 0x50)
  else if n ≤ 0x64 then st.window.byte (n - 0x60)
  else if n ≤ 0x6D then st.aux.byte (n - 0x68)
  else getByte st.ports (n - 0x70)

/-- The staging records with the byte at an index of class staging stored (R165). -/
def Staging.store (st : Staging) (i : Byte) (b : Byte) : Staging :=
  let n := i.toNat
  if n ≤ 0x2F then { st with route := st.route.store (n - 0x28) b }
  else if n ≤ 0x38 then { st with overlay := st.overlay.store (n - 0x30) b }
  else if n ≤ 0x49 then { st with select := st.select.store (n - 0x40) b }
  else if n ≤ 0x5C then { st with job := st.job.store (n - 0x50) b }
  else if n ≤ 0x64 then { st with window := st.window.store (n - 0x60) b }
  else if n ≤ 0x6D then { st with aux := st.aux.store (n - 0x68) b }
  else { st with ports := setByte st.ports (n - 0x70) b }

/-! ### Data lanes of an answer -/

/-- Lanes that carry the bytes of `f` where the set carries them; the manual gives the others no value (log entry 11). -/
def laneData (lanes : Lanes) (f : Nat → Byte) : LaneData :=
  Vector.ofFn fun k => if carries lanes k.val then some (f k.val) else none

/-- Every lane reads 0xFF (R12). -/
def allOnesLanes : LaneData := Vector.ofFn fun _ => some 0xFF#8

/-- An answer of ready with data. -/
def HostAnswer.readyData (d : LaneData) : HostAnswer := { busError := false, data := some d }

/-- An answer of ready after a write. -/
def HostAnswer.readyWrite : HostAnswer := { busError := false, data := none }

/-- The word an aux read drives on AD: the bytes of the carried lanes, 0xFF on the others (R126). -/
def auxReadData (lanes : Lanes) (f : Nat → Byte) : Word := wordOf fun k => if carries lanes k then f k else 0xFF#8

end Sys2Proof.Machine
end

