-- ==== Sys2Proof/Machine/Flags.lean ====
section
/-! DEFINITION. Every indication the part computes from its state: the interrupt causes and INT (R148, R149), AGNT
(R109), ADONE and AERR (Table 7-2), the select decision and the levels of the select lines (R152 to R155). -/

namespace Sys2Proof.Machine

/-! ### Interrupt (R148, R149) -/

/-- ENGINE_QUIET: the engine is IDLE and the Job Queue is empty (R148). -/
def Txe.quiet (t : Txe) : Bool := decide (t.engine = .idle) && t.queue.isEmpty

/-- The four causes, in the bit order of the interrupt mask (R148, section 11.5). -/
def State.causes (s : State) : BitVec 4 :=
  BitVec.ofBool s.txe.quiet ++ BitVec.ofBool s.rpu.overflow ++ BitVec.ofBool (!s.rpu.faults.isEmpty)
    ++ BitVec.ofBool (!s.rpu.completions.isEmpty)

/-- INT is asserted while at least one unmasked cause holds (R149), and not while RESET is asserted (R150). -/
def State.intLevel (s : State) : Bool := !s.inReset && (s.causes &&& s.rpu.mask != 0#4)

/-! ### Auxiliary handshake (R109, Table 7-2) -/

/-- AGNT is asserted while AUX is owner and AREQ is asserted; it does not fall while an aux access is in progress
(R107, R109). -/
def State.agntLevel (s : State) : Bool :=
  match s.wpa.owner with
  | some .aux =>
    (s.amp.areq && !s.inReset) || (match s.wsc.access with | some (.aux _) => true | _ => false)
  | _ => false

/-- ADONE (Table 7-2). -/
def AuxState.adone : AuxState → Bool
  | .answered _ _ => true
  | _ => false

/-- AERR (Table 7-2). -/
def AuxState.aerr : AuxState → Bool
  | .answered _ a => a.error
  | _ => false

/-- The data the AMP drives on AD (R128). -/
def AuxState.driven : AuxState → Option Word
  | .answered _ a => a.data
  | _ => none

/-! ### Select lines (R152 to R155) -/

/-- Whether a direction matches a qualifier (R152, condition 4). -/
def Qualifier.matches : Qualifier → Direction → Bool
  | .reads, .read => true
  | .writes, .write => true
  | .either, _ => true
  | _, _ => false

/-- The select decision of one record for a cycle (R152). -/
def SelectRecord.fires (r : SelectRecord) (space : Space) (addr : HostAddr) (dir : Direction) (claimed : Bool) : Bool :=
  r.enabled && decide (r.space = space)
    && (decide (r.base.toNat ≤ addr.toNat) && decide (addr.toNat < r.base.toNat + 2 ^ r.sizeCode.toNat))
    && r.qualifier.matches dir && (!r.unclaimedOnly || !claimed)

/-- The inactive level of a record's line (R154): a set bit is high. -/
def SelectRecord.inactiveLevel (r : SelectRecord) : Bool := decide (r.polarity = .activeLow)

/-- The level of a record's line for a cycle (R154). -/
def SelectRecord.level (r : SelectRecord) (space : Space) (addr : HostAddr) (dir : Direction) (claimed : Bool) : Bool :=
  if r.fires space addr dir claimed then !r.inactiveLevel else r.inactiveLevel

/-- Four levels as the lines SEL3 to SEL0. -/
def lines4 (f : Fin 4 → Bool) : BitVec 4 :=
  BitVec.ofBool (f 3) ++ BitVec.ofBool (f 2) ++ BitVec.ofBool (f 1) ++ BitVec.ofBool (f 0)

/-- The levels of the four lines for a cycle (R152, R154). -/
def Sdc.cycleLevels (d : Sdc) (space : Space) (addr : HostAddr) (dir : Direction) (claimed : Bool) : BitVec 4 :=
  lines4 fun k => d.records[k].level space addr dir claimed

/-- The levels of the four lines between host cycles (R154). -/
def Sdc.idleLevels (d : Sdc) : BitVec 4 := lines4 fun k => d.records[k].inactiveLevel

/-- The levels between host cycles, which are high while RESET is asserted (R155). -/
def State.restLevels (s : State) : BitVec 4 := if s.inReset then 0xF#4 else s.sdc.idleLevels

end Sys2Proof.Machine
end

