-- ==== Sys2Proof/Machine/Routing.lean ====
section
/-! DEFINITION. Route resolution (R1, R2, R7 to R9, R26 to R30), the validity of what software stages (R5, R177), and
the codes of the fields (Table 11-2). -/

namespace Sys2Proof.Machine

/-! ### Route resolution -/

/-- Whether a host memory cycle's address is in the window (R1). -/
def Rtu.inWindow (r : Rtu) (addr : HostAddr) : Bool :=
  r.windowEnable && decide (r.windowBase.toNat ≤ addr.toNat)
    && decide (addr.toNat < r.windowBase.toNat + Config.windowBytes)

/-- The window-relative address (R2). -/
def Rtu.relative (r : Rtu) (addr : HostAddr) : Offset := (addr - r.windowBase).setWidth 24

/-- The block number of a window-relative address (R2). -/
def blockOf (rel : Offset) : Fin 64 := Fin.ofNat 64 (rel.toNat / Config.blockBytes)

/-- The block offset of a window-relative address (R2). -/
def blockOffset (rel : Offset) : Offset := BitVec.ofNat 24 (rel.toNat % Config.blockBytes)

/-- The page number of a window-relative address (R2). -/
def pageOf (rel : Offset) : BitVec 12 := BitVec.ofNat 12 (rel.toNat / Config.pageBytes)

/-- The page offset of a window-relative address (R2). -/
def pageOffset (rel : Offset) : Offset := BitVec.ofNat 24 (rel.toNat % Config.pageBytes)

/-- The route the Routing Table entry alone gives (R7, Table 1-4). -/
def RouteEntry.route (e : RouteEntry) (b : Fin 64) (off : Offset) (dir : Direction) : Route :=
  match e.mode, dir with
  | .pass, _ => .notClaimed
  | .boot, .read => .bootRead (e.bootBase + off) b
  | .boot, .write => .discard b e.faultAction
  | .copy, .read => .bootRead (e.bootBase + off) b
  | .copy, .write => .workWrite (e.workBase + off) b none
  | .shadow, .read => .workRead (e.workBase + off) b none
  | .shadow, .write => .discard b e.faultAction
  | .live, .read => .workRead (e.workBase + off) b none
  | .live, .write => .workWrite (e.workBase + off) b none
  | .closed, _ => .closed b e.faultAction

/-- The applying overlay entry of a page: the lowest-numbered enabled entry that names it (R26). -/
def Rtu.applying (r : Rtu) (page : BitVec 12) : Option (Fin 16) :=
  (List.finRange 16).find? fun i => r.overlays[i].enabled && decide (r.overlays[i].hostPage = page)

/-- The route of a host memory cycle (R9), with the overlay routes of R27 to R29. -/
def Rtu.resolve (r : Rtu) (addr : HostAddr) (dir : Direction) : Route :=
  if r.inWindow addr then
    let rel := r.relative addr
    let b := blockOf rel
    let e := r.routes[b]
    if e.mode = .closed then .closed b e.faultAction
    else
      match r.applying (pageOf rel) with
      | none => e.route b (blockOffset rel) dir
      | some i =>
        let o := r.overlays[i]
        match dir, o.scope with
        | .read, _ => .workRead (o.workPage + pageOffset rel) b (some i)
        | .write, .readsWrites => .workWrite (o.workPage + pageOffset rel) b (some i)
        | .write, .reads => e.route b (blockOffset rel) .write
  else .notClaimed

/-! ### Valid bases (R5, R25, R121) -/

/-- A boot base or work base is valid for a store size (R5). -/
def validBase (base : Offset) (size : Nat) : Bool :=
  decide (base.toNat % Config.blockBytes = 0) && decide (base.toNat < size)

/-- A work page is valid for a Work Store size (R25, R34). -/
def validPage (page : Offset) (size : Nat) : Bool :=
  decide (page.toNat % Config.pageBytes = 0) && decide (page.toNat < size)

/-- An aux window is valid for a Work Store size (R121, R131). -/
def validAuxWindow (base limit : Offset) (size : Nat) : Bool :=
  decide (base.toNat % Config.pageBytes = 0) && decide (limit.toNat % Config.pageBytes = 0)
    && decide (base.toNat ≤ limit.toNat) && decide (limit.toNat < size)

/-! ### Field codes (Table 11-2) -/

/-- The code of a mode. -/
def Mode.code : Mode → Byte
  | .pass => 0#8 | .boot => 1#8 | .copy => 2#8 | .shadow => 3#8 | .live => 4#8 | .closed => 5#8

/-- The mode a code names. -/
def Mode.ofCode (b : Byte) : Option Mode :=
  match b.toNat with
  | 0 => some .pass | 1 => some .boot | 2 => some .copy | 3 => some .shadow | 4 => some .live | 5 => some .closed
  | _ => none

/-- The code of a fault action. -/
def FaultAction.code : FaultAction → Byte
  | .silent => 0#8 | .record => 1#8 | .recordAndError => 2#8

/-- The fault action a code names. -/
def FaultAction.ofCode (b : Byte) : Option FaultAction :=
  match b.toNat with
  | 0 => some .silent | 1 => some .record | 2 => some .recordAndError
  | _ => none

/-- The completion action a code names: 0 for NONE, otherwise the code of its mode plus 1 (R177). -/
def actionOfCode (b : Byte) : Option (Option Mode) :=
  if b = 0#8 then some none else (Mode.ofCode (b - 1#8)).map some

/-- The code of a job kind. -/
def JobKind.code : JobKind → Byte
  | .copy => 1#8 | .verify => 2#8 | .fill => 3#8

/-- The job kind a code names. -/
def JobKind.ofCode (b : Byte) : Option JobKind :=
  match b.toNat with
  | 1 => some .copy | 2 => some .verify | 3 => some .fill
  | _ => none

/-- The code of a yes or no field, of a flag byte, and of enabled and disabled. -/
def flagByte (b : Bool) : Byte := if b then 1#8 else 0#8

/-- The yes or no, enabled or disabled, a code names. -/
def flagOfCode (b : Byte) : Option Bool :=
  match b.toNat with
  | 0 => some false | 1 => some true
  | _ => none

/-- The code of an overlay scope. -/
def Scope.code : Scope → Byte
  | .reads => 0#8 | .readsWrites => 1#8

/-- The overlay scope a code names. -/
def Scope.ofCode (b : Byte) : Option Scope :=
  match b.toNat with
  | 0 => some .reads | 1 => some .readsWrites
  | _ => none

/-- The code of a select space. -/
def Space.code : Space → Byte
  | .memory => 0#8 | .io => 1#8

/-- The select space a code names. -/
def Space.ofCode (b : Byte) : Option Space :=
  match b.toNat with
  | 0 => some .memory | 1 => some .io
  | _ => none

/-- The code of a select qualifier. -/
def Qualifier.code : Qualifier → Byte
  | .reads => 0#8 | .writes => 1#8 | .either => 2#8

/-- The select qualifier a code names. -/
def Qualifier.ofCode (b : Byte) : Option Qualifier :=
  match b.toNat with
  | 0 => some .reads | 1 => some .writes | 2 => some .either
  | _ => none

/-- The code of a select polarity. -/
def Polarity.code : Polarity → Byte
  | .activeLow => 0#8 | .activeHigh => 1#8

/-- The select polarity a code names. -/
def Polarity.ofCode (b : Byte) : Option Polarity :=
  match b.toNat with
  | 0 => some .activeLow | 1 => some .activeHigh
  | _ => none

/-- The code of an engine state. -/
def EngineState.code : EngineState → Byte
  | .idle => 0#8 | .running _ => 1#8 | .draining _ => 2#8 | .retiring _ => 3#8

/-- The code of a fault kind. -/
def FaultKind.code : FaultKind → Byte
  | .discardedWrite => 1#8 | .closedAccess => 2#8 | .workParity => 3#8 | .verifyMismatch => 4#8
  | .hostWaitTimeout => 5#8 | .auxRange => 6#8 | .auxUngranted => 7#8

/-- The code of a fault source. -/
def Requester.code : Requester → Byte
  | .hostPath => 1#8 | .engine => 2#8 | .aux => 3#8

/-- The code of a direction. -/
def directionCode : Direction → Byte
  | .read => 1#8 | .write => 2#8

/-- The code of an awaited detail. -/
def Awaited.code : Awaited → Byte
  | .bootPort => 1#8 | .workPort => 2#8 | .postDrain => 3#8 | .postSlot => 4#8

/-- The code of an outcome. -/
def JobOutcome.code : JobOutcome → Byte
  | .done => 1#8 | .failed => 2#8 | .aborted => 3#8

/-- The code of a reason. -/
def Reason.code : Reason → Byte
  | .none => 0#8 | .mismatchLimit => 1#8 | .lockedTarget => 2#8 | .abortCommand => 3#8

/-- The code of an action result. -/
def ActionResult.code : ActionResult → Byte
  | .noneRequested => 1#8 | .applied => 2#8 | .refusedLocked => 3#8 | .notApplied => 4#8

/-- The code of a result (Table 11-7). -/
def ResultCode.code : ResultCode → Byte
  | .ok => 0#8 | .badIndex => 1#8 | .badField => 2#8 | .locked => 3#8 | .pinned => 4#8 | .queueFull => 5#8
  | .empty => 6#8 | .nothingActive => 7#8 | .unknownCommand => 8#8

/-! ### Entries the staging records stage (R18, R34, R58, R157) -/

/-- The routing entry the route staging record stages, when all four fields pass their checks (R18, step 4). -/
def RouteStaging.entry? (r : RouteStaging) (st : Straps) : Option RouteEntry :=
  match Mode.ofCode r.mode, FaultAction.ofCode r.faultAction with
  | some m, some f =>
    if validBase r.bootBase st.bootSize && validBase r.workBase st.workSize then
      some { mode := m, bootBase := r.bootBase, workBase := r.workBase, faultAction := f }
    else none
  | _, _ => none

/-- The overlay entry the overlay staging record stages with a hit count of 0, when its fields pass (R34, R35). -/
def OverlayStaging.entry? (r : OverlayStaging) (st : Straps) : Option OverlayEntry :=
  match flagOfCode r.enabled, Scope.ofCode r.scope with
  | some en, some sc =>
    if decide (r.hostPage.toNat ≤ 4095) && validPage r.workPage st.workSize then
      some { enabled := en, hostPage := r.hostPage.setWidth 12, workPage := r.workPage, scope := sc, hits := 0#16 }
    else none
  | _, _ => none

/-- A size code is valid for a space (R151). -/
def validSizeCode (sp : Space) (code : BitVec 5) : Bool :=
  match sp with
  | .memory => decide (4 ≤ code.toNat) && decide (code.toNat ≤ 24)
  | .io => decide (4 ≤ code.toNat) && decide (code.toNat ≤ 12)

/-- Size and base of a select record meet the conditions of Table 9-1 (R157, step 2). -/
def validRange (sp : Space) (code : BitVec 5) (base : HostAddr) : Bool :=
  validSizeCode sp code && decide (base.toNat % 2 ^ code.toNat = 0)
    && (decide (sp = .memory) || decide (base.toNat < 0x10000))

/-- The select record the select staging record stages, when all fields pass their checks (R157). -/
def SelectStaging.record? (r : SelectStaging) : Option SelectRecord :=
  match flagOfCode r.enabled, Space.ofCode r.space, Qualifier.ofCode r.qualifier, Polarity.ofCode r.polarity,
        flagOfCode r.unclaimedOnly with
  | some en, some sp, some q, some p, some u =>
    if validRange sp r.sizeCode r.base then
      some { enabled := en, space := sp, sizeCode := r.sizeCode, base := r.base, qualifier := q, polarity := p,
             unclaimedOnly := u }
    else none
  | _, _, _, _, _ => none

/-- The job the job staging record stages, when its fields pass their checks (R58, step 2). -/
def JobStaging.job? (r : JobStaging) : Option Job :=
  match JobKind.ofCode r.kind, actionOfCode r.action with
  | some k, some act =>
    if h : r.block.toNat < 64 then
      if r.firstLine.toNat ≤ 8191 ∧ 1 ≤ r.lineCount.toNat ∧ r.lineCount.toNat ≤ 8192
          ∧ r.firstLine.toNat + r.lineCount.toNat ≤ 8192 ∧ (k = .verify → 1 ≤ r.limit.toNat) then
        some { tag := r.tag, kind := k, block := ⟨r.block.toNat, h⟩, firstLine := r.firstLine.toNat,
               lineCount := r.lineCount.toNat, pattern := r.pattern, limit := r.limit, action := act }
      else none
    else none
  | _, _ => none

end Sys2Proof.Machine
end

