-- ==== Sys2Proof/Machine/Ops.lean ====
section
/-! DEFINITION. The operations the commands share: handing over a fault (R136), marking the Written-Byte Map (R88),
ending and posting host cycles (chapter 3), Boot Store requests (R113), lines and job ends of the engine (R66 to R79),
and the Work Store Port Arbiter (R100 to R111). -/

namespace Sys2Proof.Machine

/-! ### Reporting (chapter 8) -/

/-- Whether a record agrees with a fault in kind, source and address (R136). -/
def FaultRecord.agrees (r f : FaultRecord) : Bool :=
  decide (r.kind = f.kind) && decide (r.source = f.source) && decide (r.address = f.address)

/-- The RPU after it has taken a fault: coalesced, appended or lost (R136 to R138). -/
def Rpu.takeFault (u : Rpu) (f : FaultRecord) : Rpu :=
  match u.faults.getLast? with
  | some n =>
    if n.agrees f && decide (n.repeats ≠ 255#8) then
      { u with faults := u.faults.dropLast ++ [{ n with repeats := n.repeats + 1#8 }] }
    else if u.faults.length < 8 then { u with faults := u.faults ++ [{ f with repeats := 1#8 }] }
    else { u with overflow := true, lost := if u.lost = 255#8 then 255#8 else u.lost + 1#8 }
  | none => { u with faults := [{ f with repeats := 1#8 }] }

/-- A fault handed over to the RPU (R136). -/
def State.handFault (f : FaultRecord) (s : State) : State := { s with rpu := s.rpu.takeFault f }

/-- A fault of source HOST_PATH: the cycle's host address, its direction and the route's block (Table 8-3). -/
def hostFault (kind : FaultKind) (addr : HostAddr) (dir : Direction) (block : Fin 64) : FaultRecord :=
  { kind := kind, source := .hostPath, address := addr, direction := some dir, block := some block, tag := none,
    lanes := none, detail := none, awaited := none, repeats := 1#8 }

/-- A fault of source ENGINE: a Work offset and the job's tag (Table 8-3). -/
def engineFault (kind : FaultKind) (off : Offset) (tag : Byte) : FaultRecord :=
  { kind := kind, source := .engine, address := off.setWidth 32, direction := none, block := none, tag := some tag,
    lanes := none, detail := none, awaited := none, repeats := 1#8 }

/-- A fault of source AUX: the offset as sampled and the direction (Table 8-3). -/
def auxFault (kind : FaultKind) (off : Offset) (dir : Direction) : FaultRecord :=
  { kind := kind, source := .aux, address := off.setWidth 32, direction := some dir, block := none, tag := none,
    lanes := none, detail := none, awaited := none, repeats := 1#8 }

/-! ### Written-Byte Map (R88) -/

/-- The positions of a line that the lanes of a write concern. -/
def lanePositions (off : Offset) (lanes : Lanes) : LineMask := lanes.setWidth 32 <<< (off.toNat % 32)

/-- The map after a write at a Work offset has marked it (R88). -/
def ByteMap.mark (m : ByteMap) (off : Offset) (lanes : Lanes) : ByteMap :=
  if m.start.toNat ≤ off.toNat ∧ off.toNat < m.start.toNat + m.lines * 32 then
    let line := (off.toNat - m.start.toNat) / 32
    { m with masks := LineMasks.write m.masks line (LineMasks.read m.masks line ||| lanePositions off lanes) }
  else m

/-- A write at a Work offset marks the map, if it is armed (R88). -/
def State.mark (off : Offset) (lanes : Lanes) (s : State) : State :=
  { s with txe := { s.txe with map := s.txe.map.map fun m => m.mark off lanes } }

/-! ### Host cycles (chapter 3) -/

/-- Whether a host cycle may arrive: the previous one has ended (section 3.1). -/
def State.busFree (s : State) : Bool := s.hbi.cycle.isNone && !s.hbi.unclaimed

/-- The select lines and the answer at the arrival of a host cycle (R152, R154). -/
def State.arrive (space : Space) (addr : HostAddr) (dir : Direction) (claimed : Bool) (s : State) : State :=
  let levels := s.sdc.cycleLevels space addr dir claimed
  { s with pins := { s.pins with answer := none, sel := levels, selCycle := levels } }

/-- The part answers a host cycle, and the select lines return to their inactive levels (R154). -/
def State.answer (a : HostAnswer) (s : State) : State :=
  { s with pins := { s.pins with answer := some a, sel := s.restLevels } }

/-- The claimed memory cycle ends: it is answered, the state is NONE and the timer is stopped (R41). -/
def State.endCycle (a : HostAnswer) (s : State) : State :=
  { s with hbi := { s.hbi with cycle := none, timerRunning := false } }.answer a

/-- A write is posted: its entry is appended and marks the map (R45, R90). -/
def State.post (e : PostEntry) (s : State) : State :=
  { s with hbi := { s.hbi with buffer := s.hbi.buffer ++ [e] } }.mark e.offset e.lanes

/-- The entry a claimed write is posted as (R44). -/
def HostCycle.entry (c : HostCycle) : PostEntry := { offset := c.offset, lanes := c.lanes, data := c.data }

/-- The claimed cycle in progress is in a state, with the host wait timer as Table 3-2 gives it at entry (R41, R50). -/
def State.hold (c : HostCycle) (s : State) : State :=
  { s with hbi := { s.hbi with cycle := some c, timerRunning := decide (s.hbi.waitLimit ≠ 0#8) } }

/-- The claimed cycle passes to another state; the timer stops at the start of its access and otherwise runs on (R41). -/
def State.restage (st : HostStage) (s : State) : State :=
  { s with
    hbi := { s.hbi with
      cycle := s.hbi.cycle.map fun c => { c with stage := st }
      timerRunning := match st with
        | .bootAccess | .workAccess => false
        | _ => s.hbi.timerRunning } }

/-! ### Boot Store port (R113, R114) -/

/-- Duration in ns of a Boot access of `words` 4-byte words (R114, Table 6-6). -/
def bootDuration (setting : BitVec 3) (words : Nat) : Nat := words * (50 * (setting.toNat + 1))

/-- The BSC starts the host's access of one word (R113). -/
def Bsc.startHost (b : Bsc) (off : Offset) : Bsc :=
  { b with
    accessor := some { user := .hostPath, offset := off, dropped := false, durationNs := bootDuration b.accessTime 1 }
    hostRequest := none }

/-- The BSC starts the engine's read of one line (R113). -/
def Bsc.startEngine (b : Bsc) (off : Offset) : Bsc :=
  { b with
    accessor := some { user := .engine, offset := off, dropped := false, durationNs := bootDuration b.accessTime 8 }
    engineRequest := none }

/-- The active job, in RUNNING and DRAINING (R60). -/
def EngineState.active : EngineState → Option ActiveJob
  | .running a | .draining a => some a
  | _ => none

/-- The engine state with the active job replaced. -/
def EngineState.mapActive (f : ActiveJob → ActiveJob) : EngineState → EngineState
  | .running a => .running (f a)
  | .draining a => .draining (f a)
  | e => e

/-- The line in progress passes to a stage (R66). -/
def State.setStage (st : LineStage) (s : State) : State :=
  { s with txe := { s.txe with engine := s.txe.engine.mapActive fun a => { a with stage := st } } }

/-- The access in progress at the BSC has completed: a pending host request starts first, then a pending engine
request, otherwise the accessor is NONE (R113). -/
def State.bootNext (s : State) : State :=
  match s.bsc.hostRequest with
  | some off => { s with bsc := s.bsc.startHost off }.restage .bootAccess
  | none =>
    match s.bsc.engineRequest with
    | some off => { s with bsc := s.bsc.startEngine off }.setStage .bootRead
    | none => { s with bsc := { s.bsc with accessor := none } }

/-! ### Lines and job ends (chapter 4) -/

/-- The Boot offset of line `n` (R63). -/
def ActiveJob.bootOffset (a : ActiveJob) (n : Nat) : Offset := a.bootSnapshot + BitVec.ofNat 24 (n * 32)

/-- The Work offset of line `n` (R63). -/
def ActiveJob.workOffset (a : ActiveJob) (n : Nat) : Offset := a.workSnapshot + BitVec.ofNat 24 (n * 32)

/-- A line begins, the active job running at it: a FILL line in AWAIT_WORK with the pattern, any other with a Boot read,
which starts at once where the BSC has no access in progress and no host read waits (R66, R67, R70). -/
def State.beginLine (a : ActiveJob) (s : State) : State :=
  let run (st : LineStage) (s : State) : State :=
    { s with txe := { s.txe with engine := .running { a with stage := st } } }
  let off := a.bootOffset a.nextLine
  if a.job.kind = .fill then run (.awaitWork (patternLine a.job.pattern)) s
  else if s.bsc.accessor.isNone && s.bsc.hostRequest.isNone then
    run .bootRead { s with bsc := s.bsc.startEngine off }
  else run .awaitBoot { s with bsc := { s.bsc with engineRequest := some off } }

/-- The mode of a block's entry replaced, the other fields left as they are (R22). -/
def Rtu.setMode (r : Rtu) (b : Fin 64) (m : Mode) : Rtu :=
  { r with routes := r.routes.set b { r.routes[b] with mode := m } }

/-- The action result of a job that ends (R77, Table 4-5). -/
def actionResult (action : Option Mode) (outcome : JobOutcome) (lock : Bool) : ActionResult :=
  match action with
  | none => .noneRequested
  | some _ => if outcome = .done then (if lock then .refusedLocked else .applied) else .notApplied

/-- The completion record of a job that ends (R78, Table 4-6). -/
def ActiveJob.record (a : ActiveJob) (outcome : JobOutcome) (reason : Reason) (lock : Bool) : CompletionRecord :=
  let verify := decide (a.job.kind = .verify)
  { tag := a.job.tag, kind := a.job.kind, block := a.job.block, outcome := outcome, reason := reason
    linesDone := a.linesDone
    skipped := if verify then 0 else a.skipped
    merged := if verify then 0 else a.merged
    mismatches := if verify then a.mismatches else 0
    actionResult := actionResult a.job.action outcome lock }

/-- The completion action settled (step 3 of R76, R77): an applied action writes the mode of the job's block. -/
def State.settleAction (a : ActiveJob) (outcome : JobOutcome) (s : State) : State :=
  match a.job.action with
  | some m =>
    if actionResult a.job.action outcome s.rtu.lock = .applied then { s with rtu := s.rtu.setMode a.job.block m } else s
  | none => s

/-- The completion record offered: appended with the engine IDLE, or held with the engine RETIRING (step 5 of R76,
R145). -/
def State.offer (r : CompletionRecord) (s : State) : State :=
  if s.rpu.completions.length < 8 then
    { s with rpu := { s.rpu with completions := s.rpu.completions ++ [r] }, txe := { s.txe with engine := .idle } }
  else { s with txe := { s.txe with engine := .retiring r } }

/-- Steps 3 to 5 of a job end (R76). -/
def State.retire (a : ActiveJob) (outcome : JobOutcome) (reason : Reason) (s : State) : State :=
  (s.settleAction a outcome).offer (a.record outcome reason s.rtu.lock)

/-- A job end: the pin is released, the map cleared and disarmed, then steps 3 to 5 (R76). -/
def State.jobEnd (a : ActiveJob) (outcome : JobOutcome) (reason : Reason) (s : State) : State :=
  { s with rtu := { s.rtu with pin := none }, txe := { s.txe with map := none } }.retire a outcome reason

/-- How a line completed (R69, R73, R74). -/
inductive LineResult where
  | plain | merged | skipped | mismatch
  deriving DecidableEq, Repr

/-- The counts of the active job after a line has completed (R69, R74, R75). -/
def ActiveJob.count (a : ActiveJob) (r : LineResult) : ActiveJob :=
  { a with
    linesDone := a.linesDone + 1
    skipped := if r = .skipped then a.skipped + 1 else a.skipped
    merged := if r = .merged then a.merged + 1 else a.merged
    mismatches := if r = .mismatch then a.mismatches + 1 else a.mismatches }

/-- Whether the line in progress is the job's last. -/
def ActiveJob.atLast (a : ActiveJob) : Bool := decide (a.job.firstLine + a.job.lineCount ≤ a.nextLine + 1)

/-- Whether the mismatch of the line in progress brings the count to the job's limit (R74). -/
def ActiveJob.limitReached (a : ActiveJob) (r : LineResult) : Bool :=
  decide (r = .mismatch) && decide (a.job.limit.toNat ≤ a.mismatches + 1)

/-- The line in progress completes: it is counted, and the job ends or the next line begins (R75). -/
def State.completeLine (r : LineResult) (s : State) : State :=
  match s.txe.engine with
  | .draining a => s.jobEnd (a.count r) .aborted .abortCommand
  | .running a =>
    if a.limitReached r then s.jobEnd (a.count r) .failed .mismatchLimit
    else if a.atLast then s.jobEnd (a.count r) .done .none
    else s.beginLine { a.count r with nextLine := a.nextLine + 1 }
  | _ => s

/-! ### Work Store port: wants and starts (R100 to R102) -/

/-- The requester that makes an access (R100). -/
def WorkAccess.requester : WorkAccess → Requester
  | .drain | .hostRead _ | .hostWrite => .hostPath
  | .lineWrite _ _ _ _ | .lineRead _ _ _ => .engine
  | .aux _ => .aux

/-- Duration of a Work Store access in ns (R114). -/
def WorkAccess.durationNs : WorkAccess → Nat
  | .lineWrite _ _ _ _ | .lineRead _ _ _ => 200
  | .drain | .hostRead _ | .hostWrite | .aux _ => 50

/-- HOST_PATH wants the port (R47, R101). -/
def Hbi.wantsWork (h : Hbi) : Bool :=
  !h.buffer.isEmpty || (match h.cycle with
    | some c => decide (c.stage = .awaitDrain) || decide (c.stage = .awaitWork) || decide (c.stage = .workAccess)
    | none => false)

/-- ENGINE wants the port: a line of the active job is in AWAIT_WORK or its Work access is in progress (R68, R101). -/
def EngineState.wantsWork (e : EngineState) : Bool :=
  match e.active with
  | some a => (match a.stage with
    | .awaitWork _ | .workWrite | .workRead _ => true
    | .awaitBoot | .bootRead => false)
  | none => false

/-- Whether a requester wants the Work Store port (R101, Table 6-1). ENGINE goes on wanting it until an access that
ENGINE_RESET dropped has completed (R84, R111). AREQ is not taken while RESET is asserted (R112). -/
def State.wants (s : State) : Requester → Bool
  | .hostPath => s.hbi.wantsWork
  | .engine => s.txe.engine.wantsWork || decide (s.wsc.access.map WorkAccess.requester = some .engine)
  | .aux => s.amp.areq && !s.inReset

/-- Whether a requester is waiting: it wants the port and does not own it (R101). -/
def State.waiting (s : State) (r : Requester) : Bool := s.wants r && decide (s.wpa.owner ≠ some r)

/-- Whether a requester other than `o` wants the port. -/
def State.otherWants (s : State) (o : Requester) : Bool :=
  (decide (o ≠ .hostPath) && s.wants .hostPath) || (decide (o ≠ .engine) && s.wants .engine)
    || (decide (o ≠ .aux) && s.wants .aux)

/-- The idle timer stops; a stopped timer starts afresh, with nothing carried over (R108). -/
def State.stopIdle (s : State) : State := { s with wpa := { s.wpa with idle := .stopped } }

/-- An access starts under its owner: the idle timer stops, and a guarantee of 0 expires after the start (R105, R108). -/
def State.startAccess (a : WorkAccess) (s : State) : State :=
  { s with
    wsc := { s.wsc with access := some a }
    wpa := { s.wpa with
      idle := .stopped
      guarantee := if s.wpa.guarantee = .running 0 then .expired else s.wpa.guarantee } }

/-- HOST_PATH starts its next access: the drain of the oldest entry, otherwise the waiting host access (R43, R47, R49). -/
def State.serveHost (s : State) : State :=
  match s.hbi.buffer with
  | _ :: _ => s.startAccess .drain
  | [] =>
    match s.hbi.cycle with
    | some c => (s.startAccess (if c.dir = .read then .hostRead s.wsc.parityCheck else .hostWrite)).restage .workAccess
    | none => s

/-- The number of the line in progress counted from the first line of the map's range. -/
def ActiveJob.mapLine (a : ActiveJob) : Nat := a.nextLine - a.job.firstLine

/-- The mask the Written-Byte Map holds for the line in progress (R69). -/
def Txe.lineMask (t : Txe) (a : ActiveJob) : LineMask :=
  match t.map with
  | some m => LineMasks.read m.masks a.mapLine
  | none => 0#32

/-- ENGINE owns the port with no access in progress: a line in AWAIT_WORK starts its access, or, all its bytes marked,
is skipped without one; a FILL line that begins in the same event is served in turn (R68, R69, R71). -/
def State.serveEngine : Nat → State → State
  | 0, s => s
  | fuel + 1, s =>
    match s.txe.engine.active with
    | some a =>
      match a.stage with
      | .awaitWork d =>
        let off := a.workOffset a.nextLine
        if a.job.kind = .verify then
          (s.startAccess (.lineRead off s.wsc.parityCheck false)).setStage (.workRead d)
        else if s.txe.lineMask a = BitVec.allOnes 32 then State.serveEngine fuel (s.completeLine .skipped)
        else (s.startAccess (.lineWrite off d (s.txe.lineMask a) false)).setStage .workWrite
      | _ => s
    | none => s

/-- How many lines one event may skip: those the active job has left. -/
def State.linesLeft (s : State) : Nat :=
  match s.txe.engine.active with
  | some a => a.job.firstLine + a.job.lineCount - a.nextLine + 1
  | none => 0

/-- HOST_PATH or ENGINE, owner with no access in progress, starts its next access (R102). -/
def State.serve (r : Requester) (s : State) : State :=
  match r with
  | .hostPath => s.serveHost
  | .engine => s.serveEngine s.linesLeft
  | .aux => s

/-! ### Work Store port: grant, handover, idleness (R103 to R108) -/

/-- The value of one requester. -/
def PerRequester.get {α : Type} (p : PerRequester α) : Requester → α
  | .hostPath => p.hostPath
  | .engine => p.engine
  | .aux => p.aux

/-- One requester's value replaced. -/
def PerRequester.modify {α : Type} (p : PerRequester α) (r : Requester) (f : α → α) : PerRequester α :=
  match r with
  | .hostPath => { p with hostPath := f p.hostPath }
  | .engine => { p with engine := f p.engine }
  | .aux => { p with aux := f p.aux }

/-- A counter advanced by one, which does not advance beyond its maximum (R118). -/
def advance {n : Nat} (c : BitVec n) : BitVec n := if c = BitVec.allOnes n then c else c + 1#n

/-- A live counter of a requester advanced, while counting is on (R118). -/
def Wpa.tally (w : Wpa) (r : Requester) (f : Counters → Counters) : Wpa :=
  if w.counting then { w with live := w.live.modify r f } else w

/-- The order in which the ring searches after a last owner (Table 6-2). -/
def ring : Requester → List Requester
  | .hostPath => [.engine, .aux, .hostPath]
  | .engine => [.aux, .hostPath, .engine]
  | .aux => [.hostPath, .engine, .aux]

/-- The first wanting requester in ring order after a last owner (R103, R104). -/
def State.nextWanting (s : State) (last : Requester) : Option Requester := (ring last).find? s.wants

/-- The port is granted: the requester is owner, its guarantee starts with the setting as it stands, and a grant is
counted (R103, R105). -/
def State.grant (r : Requester) (s : State) : State :=
  { s with
    wpa := ({ s.wpa with
      owner := some r
      guarantee := .running (s.wpa.guarantees.get r).toNat
      idle := .stopped }).tally r fun c => { c with grants := advance c.grants } }

/-- The owner `o` leaves the port: it is the last owner, the timers stop, and a forfeit or a preemption is counted
(R104, steps 1, 3 and 4). -/
def State.leave (o : Requester) (forfeit : Bool) (s : State) : State :=
  let w := { s.wpa with lastOwner := o, owner := none, guarantee := .stopped, idle := .stopped }
  { s with wpa :=
      if forfeit then w.tally o fun c => { c with forfeits := advance c.forfeits }
      else if s.wants o then w.tally o fun c => { c with preemptions := advance c.preemptions }
      else w }

/-- A handover away from the owner `o`, by idle expiry or otherwise. It is taken only with no access in progress and
where some other requester wants the port (R104). -/
def State.handover (o : Requester) (forfeit : Bool) (s : State) : State :=
  if s.wsc.access.isNone && s.otherWants o then
    match s.nextWanting o with
    | none => s
    | some r => (s.leave o forfeit).grant r
  else s

/-- A guarantee of 0 expires in the event in which the owner releases the port (R105). -/
def State.expireOnRelease (o : Requester) (s : State) : State :=
  if s.wpa.guarantee = .running 0 ∧ s.wants o = false then { s with wpa := { s.wpa with guarantee := .expired } } else s

/-- What the arbiter and the owner do with the port in an event with no access in progress, one thing after another:
a grant from NONE (R103), a handover by an expired guarantee (R106, R107), the owner's next access (R102), the start or
stop of the idle timer and the forfeit of an idle window of 0 (R108). HOST_PATH or ENGINE that wants the port resumes, so
the idle timer stops even where the line is skipped and no access starts; the release of that event then starts it afresh
(R107, Table 6-3). AUX that releases with its idle timer running keeps the count it has: the model's reading (log entry
24). One event takes at most six of them (log 18). -/
def State.arbitrate : Nat → State → State
  | 0, s => s
  | fuel + 1, s =>
    if s.wsc.access.isSome then s
    else
      match s.wpa.owner with
      | none =>
        match s.nextWanting s.wpa.lastOwner with
        | none => s
        | some r => State.arbitrate fuel (s.grant r)
      | some o =>
        let s := s.expireOnRelease o
        if s.wpa.guarantee = .expired ∧ s.otherWants o = true then State.arbitrate fuel (s.handover o false)
        else if s.wants o = true ∧ o ≠ .aux then State.arbitrate fuel (s.stopIdle.serve o)
        else if s.otherWants o = true ∧ s.wpa.guarantee ≠ .stopped then
          if s.wpa.idle ≠ .stopped then s
          else if s.wpa.idleWindows.get o = 0#8 then State.arbitrate fuel (s.handover o true)
          else { s with wpa := { s.wpa with idle := .running (s.wpa.idleWindows.get o).toNat } }
        else s.stopIdle

/-- The port after the wants of an event have changed or an access has ended. -/
def State.settle (s : State) : State := s.arbitrate 8

/-- The access in progress has ended. -/
def State.endAccess (s : State) : State := { s with wsc := { s.wsc with access := none } }

/-! ### The end of every event -/

/-- The outputs that follow the state in the same event: INT, AGNT, ADONE, AERR and AD (R109, R128, R149). -/
def State.drive (s : State) : State :=
  { s with
    pins := { s.pins with
      int := s.intLevel
      agnt := s.agntLevel
      adone := s.amp.cycle.adone
      aerr := s.amp.cycle.aerr
      ad := s.amp.cycle.driven } }

/-- An event has been taken. -/
def State.done (s : State) : Host.Outcome State Fault Refusal := .next s.drive

end Sys2Proof.Machine
end

