-- ==== Sys2Proof/Machine/ReadOut.lean ====
section
/-! DEFINITION. What a read of the two ports returns (R160 to R164, R173 to R178): the byte of every index as the state
stands. A read changes no state (R162). -/

namespace Sys2Proof.Machine

/-- Byte `k` of a count presented as a value of two bytes. -/
def countByte (n k : Nat) : Byte := getByte (BitVec.ofNat 16 n) k

/-- The strap register (section 11.5, byte 0 at 0x02). -/
def strapByte (st : Straps) (k : Nat) : Byte :=
  if k = 0 then
    BitVec.ofBool st.portsel ++ st.bsize ++ st.wsize ++ st.bootspan ++ BitVec.ofBool st.winpos
  else flagByte st.parity

/-- The active job tag status (R61). -/
def EngineState.tag : EngineState → Byte
  | .idle => 0#8
  | .running a | .draining a => a.job.tag
  | .retiring r => r.tag

/-- The lines done status (R61). -/
def EngineState.linesDone : EngineState → Nat
  | .idle => 0
  | .running a | .draining a => a.linesDone
  | .retiring r => r.linesDone

/-- Status register `k`, counted from index 0x08 (Table 11-1, R173). -/
def State.statusByte (s : State) (k : Nat) : Byte :=
  match k with
  | 0 => s.txe.engine.code
  | 1 => BitVec.ofNat 8 s.txe.queue.length
  | 2 => s.txe.engine.tag
  | 3 => countByte s.txe.engine.linesDone 0
  | 4 => countByte s.txe.engine.linesDone 1
  | 5 => BitVec.ofNat 8 s.hbi.buffer.length
  | 6 => BitVec.ofNat 8 s.rpu.faults.length
  | 7 => BitVec.ofNat 8 s.rpu.completions.length
  | 8 => flagByte s.rpu.overflow
  | 9 => s.rpu.lost
  | 10 => s.causes.setWidth 8
  | _ => flagByte s.rtu.lock

/-- The current code of setting register `k`, counted from index 0x18 (Table 11-3). -/
def State.settingByte (s : State) (k : Nat) : Byte :=
  match k with
  | 0 => flagByte s.hbi.postingEnable
  | 1 => s.hbi.waitLimit
  | 2 => flagByte s.hbi.parityTermination
  | 3 => flagByte s.wsc.parityCheck
  | 4 => s.bsc.accessTime.setWidth 8
  | 5 => s.rpu.mask.setWidth 8
  | 6 => s.wpa.guarantees.hostPath
  | 7 => s.wpa.guarantees.engine
  | 8 => s.wpa.guarantees.aux
  | 9 => s.wpa.idleWindows.hostPath
  | 10 => s.wpa.idleWindows.engine
  | _ => s.wpa.idleWindows.aux

/-- The validity byte of the fault view (R141, R178). -/
def FaultRecord.validity (r : FaultRecord) : Byte :=
  0#1 ++ BitVec.ofBool r.awaited.isSome ++ BitVec.ofBool r.detail.isSome ++ BitVec.ofBool r.lanes.isSome
    ++ BitVec.ofBool r.tag.isSome ++ BitVec.ofBool r.block.isSome ++ BitVec.ofBool r.direction.isSome ++ 1#1

/-- Byte `k` of a fault record in the fault view; an absent field reads as zero (R178, Table 11-5). -/
def FaultRecord.viewByte (r : FaultRecord) (k : Nat) : Byte :=
  match k with
  | 0 => r.validity
  | 1 => r.kind.code
  | 2 => r.source.code
  | 3 => getByte r.address 0
  | 4 => getByte r.address 1
  | 5 => getByte r.address 2
  | 6 => getByte r.address 3
  | 7 => (r.direction.map directionCode).getD 0#8
  | 8 => (r.block.map fun b => BitVec.ofNat 8 b.val).getD 0#8
  | 9 => r.tag.getD 0#8
  | 10 => (r.lanes.map fun l => l.setWidth 8).getD 0#8
  | 11 => (r.detail.map fun d => d.position.setWidth 8).getD 0#8
  | 12 => (r.detail.map fun d => d.bootByte).getD 0#8
  | 13 => (r.detail.map fun d => d.workByte).getD 0#8
  | 14 => (r.awaited.map Awaited.code).getD 0#8
  | _ => r.repeats

/-- Byte `k` of a completion record in the completion view (R178, Table 11-5). -/
def CompletionRecord.viewByte (r : CompletionRecord) (k : Nat) : Byte :=
  match k with
  | 0 => 1#8
  | 1 => r.tag
  | 2 => r.kind.code
  | 3 => BitVec.ofNat 8 r.block.val
  | 4 => r.outcome.code
  | 5 => r.reason.code
  | 6 => countByte r.linesDone 0
  | 7 => countByte r.linesDone 1
  | 8 => countByte r.skipped 0
  | 9 => countByte r.skipped 1
  | 10 => countByte r.merged 0
  | 11 => countByte r.merged 1
  | 12 => BitVec.ofNat 8 r.mismatches
  | _ => r.actionResult.code

/-- Byte `k` of a view: the oldest record, or zero where there is none (R141, R146, R178). -/
def State.viewByte (s : State) (n : Nat) : Byte :=
  if n ≤ 0x8F then
    match s.rpu.faults with
    | r :: _ => r.viewByte (n - 0x80)
    | [] => 0#8
  else
    match s.rpu.completions with
    | r :: _ => r.viewByte (n - 0x90)
    | [] => 0#8

/-- Byte `k` of one requester's nine snapshot bytes (section 11.5). -/
def Counters.byte (c : Counters) (k : Nat) : Byte :=
  if k ≤ 1 then getByte c.grants k
  else if k ≤ 4 then getByte c.waitUnits (k - 2)
  else if k ≤ 6 then getByte c.forfeits (k - 5)
  else getByte c.preemptions (k - 7)

/-- A monitor snapshot register (section 11.5). -/
def State.monitorByte (s : State) (n : Nat) : Byte :=
  if n ≤ 0xA8 then s.wpa.snapshot.hostPath.byte (n - 0xA0)
  else if n ≤ 0xB1 then s.wpa.snapshot.engine.byte (n - 0xA9)
  else s.wpa.snapshot.aux.byte (n - 0xB2)

/-- What a read of the data port returns for an index (R162, Table 10-2). -/
def State.readRegister (s : State) (i : Byte) : Byte :=
  match indexClass i with
  | .identification => if i = 0#8 then Config.familyCode else Config.revision
  | .strap => strapByte s.straps (i.toNat - 2)
  | .command => s.rgw.lastCommand
  | .argument => s.rgw.argument
  | .result => if i = 0x06#8 then s.rgw.result.code else s.rgw.resultArg
  | .status => s.statusByte (i.toNat - 0x08)
  | .setting => s.settingByte (i.toNat - 0x18)
  | .staging => s.rgw.staging.byte i
  | .view => s.viewByte i.toNat
  | .monitor => s.monitorByte i.toNat
  | .unimplemented => 0xFF#8

/-- The data lanes of an I/O read that reaches a port: the index on the index lane, the selected register on the data
lane, 0xFF on every other carried lane (R160). -/
def State.portRead (s : State) (c : IoCycle) : LaneData :=
  laneData c.lanes fun k =>
    if k = indexLane s.rgw.portBase then s.rgw.index
    else if k = dataLane s.rgw.portBase then s.readRegister s.rgw.index
    else 0xFF#8

end Sys2Proof.Machine
end

