-- ==== Sys2Proof/Machine/HostCycles.lean ====
section
/-! DEFINITION. The commands of the host bus and the Host Bus Interface: arrivals, ends of host accesses, drains, the
host wait timeout (chapter 3, R154). -/

namespace Sys2Proof.Machine

/-- A DISCARD or CLOSED cycle ends in its arrival event as the fault action says (R11 to R13). -/
def State.endRefused (kind : FaultKind) (addr : HostAddr) (dir : Direction) (b : Fin 64) (fa : FaultAction)
    (data : Option LaneData) (s : State) : State :=
  let s := if fa = .silent then s else s.handFault (hostFault kind addr dir b)
  s.endCycle { busError := decide (fa = .recordAndError), data := data }

/-- The claimed cycle of a route, in a state of Table 3-2. -/
def heldCycle (c : MemoryCycle) (off : Offset) (b : Fin 64) (ov : Option (Fin 16)) (st : HostStage) : HostCycle :=
  { addr := wordAddr c.ha, dir := c.dir, lanes := c.lanes
    data := if c.dir = .write then carriedData c.lanes c.data else 0#32
    offset := off, block := b, overlay := ov, stage := st }

/-- A BOOT_READ arrives: its access starts if the BSC has none in progress, otherwise it waits (R42, R113). -/
def State.arriveBootRead (c : MemoryCycle) (off : Offset) (b : Fin 64) (s : State) : State :=
  if s.bsc.accessor.isNone then
    ({ s with bsc := s.bsc.startHost off }.hold (heldCycle c off b none .bootAccess)).restage .bootAccess
  else { s with bsc := { s.bsc with hostRequest := some off } }.hold (heldCycle c off b none .awaitBoot)

/-- A WORK_READ or an unposted WORK_WRITE arrives: it waits for the buffer to empty and for the port, and starts at
once where neither holds it back (R43, R49). -/
def State.arriveWork (c : MemoryCycle) (off : Offset) (b : Fin 64) (ov : Option (Fin 16)) (s : State) : State :=
  (s.hold (heldCycle c off b ov (if s.hbi.buffer.isEmpty then .awaitWork else .awaitDrain))).settle

/-- A WORK_WRITE arrives with posting enabled: it is posted where fewer than 4 entries are held, otherwise it waits for
a slot (R45, R46). -/
def State.arrivePosted (c : MemoryCycle) (off : Offset) (b : Fin 64) (ov : Option (Fin 16)) (s : State) : State :=
  let h := heldCycle c off b ov .awaitSlot
  if s.hbi.buffer.length < 4 then ((s.post h.entry).endCycle HostAnswer.readyWrite).settle
  else (s.hold h).settle

/-- A host memory cycle proceeds by its route (R40, Table 3-1). -/
def State.arriveRoute (c : MemoryCycle) (r : Route) (s : State) : State :=
  match r with
  | .notClaimed => { s with hbi := { s.hbi with unclaimed := true } }
  | .discard b fa => s.endRefused .discardedWrite (wordAddr c.ha) c.dir b fa none
  | .closed b fa =>
    s.endRefused .closedAccess (wordAddr c.ha) c.dir b fa (if c.dir = .read then some allOnesLanes else none)
  | .bootRead off b => s.arriveBootRead c off b
  | .workRead off b ov => s.arriveWork c off b ov
  | .workWrite off b ov => if s.hbi.postingEnable then s.arrivePosted c off b ov else s.arriveWork c off b ov

/-- HOST_MEMORY_CYCLE_ARRIVAL (R39, R40). A cycle that arrives during reset passes as an unclaimed one (R39, R155). -/
def execHostMemoryCycleArrival (c : MemoryCycle) (s : State) : Host.Outcome State Fault Refusal :=
  if c.lanes = 0#4 then .refused .noLanes
  else if s.busFree = false then .fault .hostBusOccupied
  else if s.inReset then
    State.done { s with hbi := { s.hbi with unclaimed := true }, pins := { s.pins with answer := none } }
  else
    let addr := wordAddr c.ha
    let r := s.rtu.resolve addr c.dir
    ((s.arrive .memory addr c.dir (decide (r ≠ .notClaimed))).arriveRoute c r).done

/-- UNCLAIMED_IO_CYCLE (R39, R152). An I/O cycle that does reach a port is no unclaimed one: a read of the ports is
answered as R160 says (log entry 10), a write is another row's. -/
def execUnclaimedIoCycle (dir : Direction) (c : IoCycle) (s : State) : Host.Outcome State Fault Refusal :=
  if c.lanes = 0#4 then .refused .noLanes
  else if s.busFree = false then .fault .hostBusOccupied
  else if s.inReset then
    State.done { s with hbi := { s.hbi with unclaimed := true }, pins := { s.pins with answer := none } }
  else if s.claimsIo c then
    match dir with
    | .read => ((s.arrive .io (wordAddr c.ha) .read true).answer (.readyData (s.portRead c))).done
    | .write => .refused .cycleSpellsAnother
  else
    let s := s.arrive .io (wordAddr c.ha) dir false
    State.done { s with hbi := { s.hbi with unclaimed := true } }

/-- UNCLAIMED_CYCLE_END (R40, R154). On a bus with no cycle in progress it changes nothing: the cycle was abandoned at
RESET (log entry 14). -/
def execUnclaimedCycleEnd (s : State) : Host.Outcome State Fault Refusal :=
  if s.hbi.cycle.isSome then .refused .notDue
  else State.done { s with hbi := { s.hbi with unclaimed := false }, pins := { s.pins with sel := s.restLevels } }

/-- What a waiting cycle awaits, for a timeout record (Table 3-2). -/
def HostStage.awaited : HostStage → Option Awaited
  | .awaitBoot => some .bootPort
  | .awaitDrain => some .postDrain
  | .awaitWork => some .workPort
  | .awaitSlot => some .postSlot
  | .bootAccess | .workAccess => none

/-- HOST_WAIT_TIMEOUT (R51). -/
def execHostWaitTimeout (s : State) : Host.Outcome State Fault Refusal :=
  match s.hbi.cycle with
  | none => .refused .notDue
  | some c =>
    match c.stage.awaited with
    | none => .refused .notDue
    | some w =>
      if s.hbi.timerRunning = false then .refused .notDue
      else
        let data := if c.dir = .read then some (laneData c.lanes fun _ => 0xFF#8) else none
        let s := s.handFault { hostFault .hostWaitTimeout c.addr c.dir c.block with awaited := some w }
        let s := { s with bsc := { s.bsc with hostRequest := none } }
        (s.endCycle { busError := true, data := data }).settle.done

/-- HOST_BOOT_READ_COMPLETE (R42, R113). -/
def execHostBootReadComplete (s : State) : Host.Outcome State Fault Refusal :=
  match s.bsc.accessor, s.hbi.cycle with
  | some b, some c =>
    if b.user = .hostPath then
      let data := laneData c.lanes fun k => Memory.read s.boot (b.offset.toNat + k)
      (s.endCycle (.readyData data)).bootNext.done
    else .refused .notDue
  | _, _ => .refused .notDue

/-- The carried lanes of a word whose bytes disagree with their stored parity (R53, R127). -/
def State.failingLanes (s : State) (off : Offset) (lanes : Lanes) : Lanes :=
  lines4 fun k => carries lanes k.val && s.parityFails (off.toNat + k.val)

/-- The hit count of an overlay entry advances by one and stays at 65535 (R31). -/
def Rtu.hit (r : Rtu) (ov : Option (Fin 16)) : Rtu :=
  match ov with
  | some i => { r with overlays := r.overlays.set i { r.overlays[i] with hits := advance r.overlays[i].hits } }
  | none => r

/-- HOST_WORK_READ_COMPLETE (R43, R53, R54, R31). -/
def execHostWorkReadComplete (s : State) : Host.Outcome State Fault Refusal :=
  match s.wsc.access, s.hbi.cycle with
  | some (.hostRead check), some c =>
    let data := laneData c.lanes fun k => Memory.read s.work (c.offset.toNat + k)
    let bad := if check then s.failingLanes c.offset c.lanes else 0#4
    let s := { s.endAccess with rtu := s.rtu.hit c.overlay }
    let s := if bad = 0#4 then s
      else s.handFault { hostFault .workParity c.addr .read c.block with lanes := some bad }
    let err := decide (bad ≠ 0#4) && s.hbi.parityTermination
    (s.endCycle { busError := err, data := some data }).settle.done
  | _, _ => .refused .notDue

/-- UNPOSTED_WRITE_COMPLETE (R49, R91, R116). -/
def execUnpostedWriteComplete (s : State) : Host.Outcome State Fault Refusal :=
  match s.wsc.access, s.hbi.cycle with
  | some .hostWrite, some c =>
    (((s.endAccess.writeLanes c.offset c.lanes c.data).mark c.offset c.lanes).endCycle .readyWrite).settle.done
  | _, _ => .refused .notDue

/-- What the completion of a drain does for a waiting cycle: a write in AWAIT_SLOT is posted and ends ready (R46); a
cycle in AWAIT_DRAIN passes on when the buffer is empty (R43). -/
def State.afterDrain (s : State) : State :=
  match s.hbi.cycle with
  | some c =>
    match c.stage with
    | .awaitSlot => (s.post c.entry).endCycle .readyWrite
    | .awaitDrain => if s.hbi.buffer.isEmpty then s.restage .awaitWork else s
    | _ => s
  | none => s

/-- DRAIN_COMPLETE (R47, R46, R43, R116). -/
def execDrainComplete (s : State) : Host.Outcome State Fault Refusal :=
  match s.wsc.access, s.hbi.buffer with
  | some .drain, e :: rest =>
    let s := s.endAccess.writeLanes e.offset e.lanes e.data
    let s := { s with hbi := { s.hbi with buffer := rest } }
    s.afterDrain.settle.done
  | _, _ => .refused .notDue

end Sys2Proof.Machine
end

