-- ==== Sys2Proof/Machine/Engine.lean ====
section
/-! DEFINITION. The events of the Transfer Engine: activation and the ends of its store accesses (chapter 4). -/

namespace Sys2Proof.Machine

/-- The active job of an activation, before its first line begins (R63, R65). -/
def Job.activate (j : Job) (e : RouteEntry) : ActiveJob :=
  { job := j, bootSnapshot := e.bootBase, workSnapshot := e.workBase, nextLine := j.firstLine, stage := .awaitBoot
    linesDone := 0, skipped := 0, merged := 0, mismatches := 0 }

/-- The Written-Byte Map armed empty over the Work range of a job (R87). -/
def ActiveJob.armedMap (a : ActiveJob) : ByteMap :=
  { start := a.workOffset a.job.firstLine, lines := a.job.lineCount, masks := [] }

/-- The activation scan: every held entry of the Write Post Buffer marks the map (R89). -/
def ByteMap.scan (m : ByteMap) (buffer : List PostEntry) : ByteMap :=
  buffer.foldl (fun m e => m.mark e.offset e.lanes) m

/-- Whether the activation of a job is refused its target (R64). -/
def Job.lockedTarget (j : Job) (mode : Mode) (lock : Bool) : Bool :=
  decide (j.kind ≠ .verify) && lock && decide (mode = .shadow)

/-- ACTIVATION (R62 to R65). -/
def execActivation (s : State) : Host.Outcome State Fault Refusal :=
  match s.txe.engine, s.txe.queue with
  | .idle, j :: rest =>
    let e := s.rtu.routes[j.block]
    let a := j.activate e
    let s := { s with txe := { s.txe with queue := rest } }
    if j.lockedTarget e.mode s.rtu.lock then (s.retire a .failed .lockedTarget).done
    else
      let map := if j.kind = .verify then s.txe.map else some (a.armedMap.scan s.hbi.buffer)
      let s := { s with rtu := { s.rtu with pin := some j.block }, txe := { s.txe with map := map } }
      (s.beginLine a).settle.done
  | _, _ => .refused .notDue

/-- ENGINE_BOOT_READ_COMPLETE (R67, R84, R113). The data of a dropped read is discarded. -/
def execEngineBootReadComplete (s : State) : Host.Outcome State Fault Refusal :=
  match s.bsc.accessor with
  | some b =>
    if b.user = .engine then
      if b.dropped then s.bootNext.settle.done
      else (s.setStage (.awaitWork (readLine s.boot b.offset))).bootNext.settle.done
    else .refused .notDue
  | none => .refused .notDue

/-- LINE_WRITE_COMPLETE (R69, R75, R84, R116). A dropped write writes its bytes and counts nothing. -/
def execLineWriteComplete (s : State) : Host.Outcome State Fault Refusal :=
  match s.wsc.access with
  | some (.lineWrite off data mask dropped) =>
    let s := s.endAccess.writeLine off mask data
    if dropped then s.settle.done
    else (s.completeLine (if mask = 0#32 then .plain else .merged)).settle.done
  | _ => .refused .notDue

/-- The lanes of the aligned word at position `w` of a line whose bytes fail parity. -/
def State.failingWord (s : State) (off : Offset) (w : Nat) : Lanes :=
  lines4 fun k => s.parityFails (off.toNat + w + k.val)

/-- The WORK_PARITY fault of a VERIFY line: the first failing word and its failing lanes (R72). -/
def State.lineParityFault (s : State) (off : Offset) (tag : Byte) : Option FaultRecord :=
  ([0, 4, 8, 12, 16, 20, 24, 28].find? fun w => s.failingWord off w != 0#4).map fun w =>
    { engineFault .workParity (off + BitVec.ofNat 24 w) tag with lanes := some (s.failingWord off w) }

/-- The VERIFY_MISMATCH fault of a VERIFY line: the first differing byte (R73). -/
def lineMismatchFault (bootData workData : Line) (off : Offset) (tag : Byte) : Option FaultRecord :=
  ((List.finRange 32).find? fun k => bootData[k] != workData[k]).map fun k =>
    { engineFault .verifyMismatch off tag with
      detail := some { position := BitVec.ofNat 5 k.val, bootByte := bootData[k], workByte := workData[k] } }

/-- The fault a VERIFY line hands over, if it is a parity mismatch or a data mismatch (R72, R73). -/
def State.verifyFault (s : State) (off : Offset) (check : Bool) (bootData : Line) (tag : Byte) : Option FaultRecord :=
  match (if check then s.lineParityFault off tag else none) with
  | some f => some f
  | none => lineMismatchFault bootData (readLine s.work off) off tag

/-- VERIFY_READ_COMPLETE (R71 to R75, R84). A dropped read compares nothing. -/
def execVerifyReadComplete (s : State) : Host.Outcome State Fault Refusal :=
  match s.wsc.access with
  | some (.lineRead off check dropped) =>
    if dropped then s.endAccess.settle.done
    else
      match s.txe.engine.active with
      | some a =>
        match a.stage with
        | .workRead bootData =>
          match s.verifyFault off check bootData a.job.tag with
          | some f => ((s.endAccess.handFault f).completeLine .mismatch).settle.done
          | none => (s.endAccess.completeLine .plain).settle.done
        | _ => .refused .notDue
      | none => .refused .notDue
  | _ => .refused .notDue

end Sys2Proof.Machine
end

