-- ==== Sys2Proof/Machine/Arbiter.lean ====
section
/-! DEFINITION. The unit clock of the arbiter and the expiry of its timers (R105, R106, R108, R118, R179). -/

namespace Sys2Proof.Machine

/-- The wait-units counter of one requester at a tick (R118). -/
def State.countWait (r : Requester) (s : State) : State :=
  if s.waiting r then
    { s with wpa := s.wpa.tally r fun c => { c with waitUnits := advance c.waitUnits } }
  else s

/-- The wait-units counters of the waiting requesters at a tick (R179). -/
def State.countWaits (s : State) : State := ((s.countWait .hostPath).countWait .engine).countWait .aux

/-- A tick of the guarantee timer: the last tick of a length from 1 to 255 expires it (R105, R179). -/
def GuaranteeTimer.tick : GuaranteeTimer → GuaranteeTimer
  | .running (n + 2) => .running (n + 1)
  | .running 1 => .expired
  | t => t

/-- A tick of the idle timer that does not expire it. -/
def IdleTimer.tick : IdleTimer → IdleTimer
  | .running (n + 1) => .running n
  | t => t

/-- One tick of the unit clock (R179): the waits are counted, then the timers that reach their length expire. An idle
expiry is a forfeit even when the guarantee expires in the same tick (R108); an expired guarantee hands the port over
where another waits and no access is in progress (R106). -/
def State.tick (s : State) : State :=
  let s := s.countWaits
  let s := { s with wpa := { s.wpa with guarantee := s.wpa.guarantee.tick, idle := s.wpa.idle.tick } }
  match s.wpa.idle, s.wpa.owner with
  | .running 0, some o => (s.handover o true).settle
  | _, _ => s.settle

/-- ARBITER_TICK (R179). -/
def execArbiterTick (s : State) : Host.Outcome State Fault Refusal := s.tick.done

/-- GUARANTEE_EXPIRY (R105, R106): the tick at which the owner's guarantee reaches its length (log entry 7). -/
def execGuaranteeExpiry (s : State) : Host.Outcome State Fault Refusal :=
  if s.wpa.guarantee = .running 1 then s.tick.done else .refused .notDue

/-- IDLE_EXPIRY (R108): the tick at which the idle timer reaches its length (log entry 7). -/
def execIdleExpiry (s : State) : Host.Outcome State Fault Refusal :=
  if s.wpa.idle = .running 1 then s.tick.done else .refused .notDue

end Sys2Proof.Machine
end

