-- ==== Sys2Proof/Machine/AuxPort.lean ====
section
/-! DEFINITION. The Auxiliary Master Port: AREQ, aux cycles and their handshake (chapter 7). -/

namespace Sys2Proof.Machine

/-- AUX resumes as an idle or parked owner: the idle timer stops (R107). It starts afresh in the same event where the
conditions of R108 hold (log entry 8). -/
def State.resumeAux (s : State) : State :=
  if s.wpa.owner = some .aux ∧ s.wsc.access = none then s.stopIdle else s

/-- AREQ_ASSERT (R122, R107, R103). While RESET is asserted only the level changes (R123, R133). -/
def execAreqAssert (s : State) : Host.Outcome State Fault Refusal :=
  if s.amp.areq then .refused .notDue
  else
    let s := { s with amp := { s.amp with areq := true } }
    if s.inReset then s.done else s.resumeAux.settle.done

/-- AREQ_DEASSERT (R107, R101). With an access in progress the release is taken at its completion. An
idle timer that runs already goes on with the count it has: the model's reading (log entry 24). -/
def execAreqDeassert (s : State) : Host.Outcome State Fault Refusal :=
  if s.amp.areq = false then .refused .notDue
  else
    let s := { s with amp := { s.amp with areq := false } }
    if s.inReset then s.done else s.settle.done

/-- The offset of an aux cycle lies in the aux window (R121, R125). -/
def Amp.inWindow (a : Amp) (off : Offset) : Bool :=
  decide (a.windowBase.toNat ≤ off.toNat) && decide (off.toNat < a.windowLimit.toNat + Config.pageBytes)

/-- An aux cycle answered in its start event, with no Work Store access (R123 to R125): a read drives all-ones. -/
def State.answerAux (c : AuxCycle) (error : Bool) (s : State) : State :=
  { s with amp := { s.amp with
      cycle := .answered c { error := error, data := if c.dir = .read then some 0xFFFFFFFF#32 else none } } }

/-- AUX_CYCLE_START (R123 to R126). While RESET is asserted only the level of ASTB changes (R123, R133). -/
def execAuxCycleStart (c : AuxRequest) (s : State) : Host.Outcome State Fault Refusal :=
  if s.amp.astb then .refused .notDue
  else if s.inReset then State.done { s with amp := { s.amp with astb := true } }
  else
    match s.amp.cycle with
    | .noCycle =>
      let cyc : AuxCycle :=
        { offset := auxOffset c.aa, dir := c.dir, lanes := c.lanes
          data := if c.dir = .write then carriedData c.lanes c.data else 0#32 }
      let granted := s.pins.agnt
      let s := { s with amp := { s.amp with astb := true } }
      if granted = false then
        ((s.handFault (auxFault .auxUngranted cyc.offset cyc.dir)).answerAux cyc true).done
      else if cyc.lanes = 0#4 then (s.answerAux cyc false).done
      else if s.amp.inWindow cyc.offset = false then
        ((s.handFault (auxFault .auxRange cyc.offset cyc.dir)).answerAux cyc true).done
      else
        let s := s.startAccess (.aux s.wsc.parityCheck)
        State.done { s with amp := { s.amp with cycle := .access cyc } }
    | _ => .refused .notDue

/-- The effect of a completed aux access on the Work Store side: a write writes its lanes and marks the map, a read is
checked; and the answer it calls for (R126, R127). -/
def State.auxEffect (c : AuxCycle) (check : Bool) (s : State) : State × AuxAnswer :=
  match c.dir with
  | .write => ((s.writeLanes c.offset c.lanes c.data).mark c.offset c.lanes, { error := false, data := none })
  | .read =>
    let bad := if check then s.failingLanes c.offset c.lanes else 0#4
    let data := auxReadData c.lanes fun k => Memory.read s.work (c.offset.toNat + k)
    (if bad = 0#4 then s else s.handFault { auxFault .workParity c.offset .read with lanes := some bad },
      { error := decide (bad ≠ 0#4), data := some data })

/-- AUX_ACCESS_COMPLETE (R126 to R128). With ASTB deasserted no answer is given. -/
def execAuxAccessComplete (s : State) : Host.Outcome State Fault Refusal :=
  match s.wsc.access, s.amp.cycle with
  | some (.aux check), .access c =>
    let (s, answer) := s.endAccess.auxEffect c check
    let next := if s.amp.astb then AuxState.answered c answer else .noCycle
    let s := { s with amp := { s.amp with cycle := next } }
    s.settle.done
  | _, _ => .refused .notDue

/-- ASTB_DROP (R128). A drop during ACCESS does not cut the access short. -/
def execAstbDrop (s : State) : Host.Outcome State Fault Refusal :=
  if s.amp.astb = false then .refused .notDue
  else
    let next := match s.amp.cycle with
      | .answered _ _ => AuxState.noCycle
      | other => other
    State.done { s with amp := { s.amp with astb := false, cycle := next } }

/-- ASTB_ASSERTION_DURING_ACCESS (R128). -/
def execAstbAssertionDuringAccess (s : State) : Host.Outcome State Fault Refusal :=
  match s.amp.cycle with
  | .access _ =>
    if s.amp.astb then .refused .notDue else State.done { s with amp := { s.amp with astb := true } }
  | _ => .refused .notDue

end Sys2Proof.Machine
end

