-- ==== Sys2Proof/Machine/Registers.lean ====
section
/-! DEFINITION. Writes through the register window that are no commands: the index, the staging bytes, the settings and
the remaining classes (R160 to R166). -/

namespace Sys2Proof.Machine

/-- An I/O write cycle that the part claims arrives: the select lines are decided, and a carried index lane is taken as
the index before the data lane is written (R152, R160). -/
def State.openIo (c : IoCycle) (s : State) : State :=
  let s' := s.arrive .io (wordAddr c.ha) .write true
  { s' with rgw := { s.rgw with index := s.selectedIndex c } }

/-- A data port write of a row: where the cycle writes a byte `b` to an index `i` that are the row's, the row's effect
takes place and the cycle ends ready in its arrival event (R39, R160, R162). -/
def State.dataWrite (c : IoCycle) (mine : Byte → Byte → Bool) (effect : Byte → Byte → State → State) (s : State) :
    Host.Outcome State Fault Refusal :=
  if s.busFree = false then .fault .hostBusOccupied
  else
    match s.dataPortWrite c with
    | some (i, b) =>
      if mine i b then ((effect i b (s.openIo c)).answer .readyWrite).done else .refused .cycleSpellsAnother
    | none => .refused .cycleSpellsAnother

/-- INDEX_PORT_WRITE (R161): a write cycle that carries the index lane and not the data lane. -/
def execIndexPortWrite (c : IoCycle) (s : State) : Host.Outcome State Fault Refusal :=
  if s.busFree = false then .fault .hostBusOccupied
  else if !s.inReset && s.reachesIndex c && !s.reachesData c then ((s.openIo c).answer .readyWrite).done
  else .refused .cycleSpellsAnother

/-- STAGING_WRITE (R165). -/
def execStagingWrite (c : IoCycle) (s : State) : Host.Outcome State Fault Refusal :=
  s.dataWrite c (fun i _ => decide (indexClass i = .staging)) fun i b s =>
    { s with rgw := { s.rgw with staging := s.rgw.staging.store i b } }

/-- POSTING_ENABLE_WRITE (R48, R166). -/
def execPostingEnableWrite (c : IoCycle) (s : State) : Host.Outcome State Fault Refusal :=
  s.dataWrite c (fun i _ => decide (i = 0x18#8)) fun _ b s =>
    { s with hbi := { s.hbi with postingEnable := (flagOfCode b).getD s.hbi.postingEnable } }

/-- HOST_WAIT_LIMIT_WRITE (R50, R166). -/
def execHostWaitLimitWrite (c : IoCycle) (s : State) : Host.Outcome State Fault Refusal :=
  s.dataWrite c (fun i _ => decide (i = 0x19#8)) fun _ b s => { s with hbi := { s.hbi with waitLimit := b } }

/-- PARITY_TERMINATION_WRITE (R54, R166). -/
def execParityTerminationWrite (c : IoCycle) (s : State) : Host.Outcome State Fault Refusal :=
  s.dataWrite c (fun i _ => decide (i = 0x1A#8)) fun _ b s =>
    { s with hbi := { s.hbi with parityTermination := (flagOfCode b).getD s.hbi.parityTermination } }

/-- The parity-check enable after a write of a byte (R117, R166): on is taken only with PARITY = 1. -/
def parityCheckAfter (parity old : Bool) (b : Byte) : Bool :=
  match flagOfCode b with
  | some true => parity
  | some false => false
  | none => old

/-- PARITY_CHECK_ENABLE_WRITE (R117, R166). -/
def execParityCheckEnableWrite (c : IoCycle) (s : State) : Host.Outcome State Fault Refusal :=
  s.dataWrite c (fun i _ => decide (i = 0x1B#8)) fun _ b s =>
    { s with wsc := { s.wsc with parityCheck := parityCheckAfter s.straps.parity s.wsc.parityCheck b } }

/-- BOOT_ACCESS_TIME_WRITE (R114, R166): a value above 7 is ignored. -/
def execBootAccessTimeWrite (c : IoCycle) (s : State) : Host.Outcome State Fault Refusal :=
  s.dataWrite c (fun i _ => decide (i = 0x1C#8)) fun _ b s =>
    { s with bsc := { s.bsc with accessTime := if b.toNat ≤ 7 then b.setWidth 3 else s.bsc.accessTime } }

/-- The requester of the guarantee and idle window registers, in the order of their indexes (Table 11-1). -/
def requesterAt : Nat → Requester
  | 0 => .hostPath
  | 1 => .engine
  | _ => .aux

/-- GUARANTEE_WRITE (R110, R166): indexes 0x1E to 0x20. -/
def execGuaranteeWrite (c : IoCycle) (s : State) : Host.Outcome State Fault Refusal :=
  s.dataWrite c (fun i _ => decide (0x1E ≤ i.toNat) && decide (i.toNat ≤ 0x20)) fun i b s =>
    { s with wpa := { s.wpa with
        guarantees := s.wpa.guarantees.modify (requesterAt (i.toNat - 0x1E)) fun _ => b } }

/-- IDLE_WINDOW_WRITE (R110, R166): indexes 0x21 to 0x23. -/
def execIdleWindowWrite (c : IoCycle) (s : State) : Host.Outcome State Fault Refusal :=
  s.dataWrite c (fun i _ => decide (0x21 ≤ i.toNat) && decide (i.toNat ≤ 0x23)) fun i b s =>
    { s with wpa := { s.wpa with
        idleWindows := s.wpa.idleWindows.modify (requesterAt (i.toNat - 0x21)) fun _ => b } }

/-- INTERRUPT_MASK_WRITE (R149, R166): bits 4 to 7 are ignored. -/
def execInterruptMaskWrite (c : IoCycle) (s : State) : Host.Outcome State Fault Refusal :=
  s.dataWrite c (fun i _ => decide (i = 0x1D#8)) fun _ b s => { s with rpu := { s.rpu with mask := b.setWidth 4 } }

/-- The classes REGISTER_WRITE covers: the argument register, and those a write does not change (R162, R163). -/
def IndexClass.plainWrite : IndexClass → Bool
  | .argument | .result | .status | .view | .strap | .identification | .monitor | .unimplemented => true
  | .command | .setting | .staging => false

/-- REGISTER_WRITE (R162, R163): the argument register stores the byte, the other classes ignore it. -/
def execRegisterWrite (c : IoCycle) (s : State) : Host.Outcome State Fault Refusal :=
  s.dataWrite c (fun i _ => (indexClass i).plainWrite) fun i b s =>
    if indexClass i = .argument then { s with rgw := { s.rgw with argument := b } } else s

end Sys2Proof.Machine
end

