-- ==== Sys2Proof/Machine/Commands.lean ====
section
/-! DEFINITION. The commands written to the command register (R167 to R169, Table 10-7), each by the rule of the block
that owns the state it changes. -/

namespace Sys2Proof.Machine

/-- What a block answers a command: the state with the command carried out, the result code and the result argument. -/
structure Reply where
  state  : State
  result : ResultCode
  arg    : Byte := 0#8

/-- The registers a command sets: the last command code, the result code and the result argument (R167). -/
def Reply.record (r : Reply) (code : Byte) : State :=
  { r.state with rgw := { r.state.rgw with lastCommand := code, result := r.result, resultArg := r.arg } }

/-- A command event: a data port write of a row's code to the command register (R167). -/
def State.command (c : IoCycle) (mine : Byte → Bool) (run : State → Reply) (s : State) :
    Host.Outcome State Fault Refusal :=
  s.dataWrite c (fun i b => decide (i = 0x04#8) && mine b) fun _ b s => (run s).record b

/-! ### Routing (chapter 1) -/

/-- SET_WINDOW (R3). -/
def State.runSetWindow (s : State) : Reply :=
  if s.rtu.lock then { state := s, result := .locked }
  else
    match flagOfCode s.rgw.staging.window.enable with
    | some en =>
      if s.rgw.staging.window.base.toNat % Config.windowBytes = 0 then
        { state := { s with rtu := { s.rtu with windowBase := s.rgw.staging.window.base, windowEnable := en } }
          result := .ok }
      else { state := s, result := .badField }
    | none => { state := s, result := .badField }

/-- COMMIT_ROUTE (R18, R19). -/
def State.runCommitRoute (s : State) : Reply :=
  if h : s.rgw.argument.toNat < 64 then
    if s.rtu.lock then { state := s, result := .locked }
    else if s.rtu.pin = some ⟨s.rgw.argument.toNat, h⟩ then { state := s, result := .pinned }
    else
      match s.rgw.staging.route.entry? s.straps with
      | some e => { state := { s with rtu := { s.rtu with routes := s.rtu.routes.set s.rgw.argument.toNat e h } }
                    result := .ok }
      | none => { state := s, result := .badField }
  else { state := s, result := .badIndex }

/-- A routing entry as the route staging record holds it (R20, R177). -/
def RouteEntry.staged (e : RouteEntry) : RouteStaging :=
  { mode := e.mode.code, bootBase := e.bootBase, workBase := e.workBase, faultAction := e.faultAction.code }

/-- LOAD_ROUTE (R20). -/
def State.runLoadRoute (s : State) : Reply :=
  if h : s.rgw.argument.toNat < 64 then
    { state := { s with rgw := { s.rgw with staging := { s.rgw.staging with
        route := (s.rtu.routes[s.rgw.argument.toNat]'h).staged } } }
      result := .ok }
  else { state := s, result := .badIndex }

/-- LOCK_ROUTING (R23). -/
def State.runLockRouting (s : State) : Reply :=
  { state := { s with rtu := { s.rtu with lock := true } }, result := .ok }

/-! ### Overlays (chapter 2) -/

/-- COMMIT_OVERLAY (R34, R35). -/
def State.runCommitOverlay (s : State) : Reply :=
  if h : s.rgw.argument.toNat < 16 then
    if s.rtu.lock then { state := s, result := .locked }
    else
      match s.rgw.staging.overlay.entry? s.straps with
      | some e => { state := { s with rtu := { s.rtu with overlays := s.rtu.overlays.set s.rgw.argument.toNat e h } }
                    result := .ok }
      | none => { state := s, result := .badField }
  else { state := s, result := .badIndex }

/-- An overlay entry as the overlay staging record holds it (R36, R177). -/
def OverlayEntry.staged (e : OverlayEntry) : OverlayStaging :=
  { enabled := flagByte e.enabled, hostPage := e.hostPage.setWidth 16, workPage := e.workPage, scope := e.scope.code
    hits := e.hits }

/-- LOAD_OVERLAY (R36). -/
def State.runLoadOverlay (s : State) : Reply :=
  if h : s.rgw.argument.toNat < 16 then
    { state := { s with rgw := { s.rgw with staging := { s.rgw.staging with
        overlay := (s.rtu.overlays[s.rgw.argument.toNat]'h).staged } } }
      result := .ok }
  else { state := s, result := .badIndex }

/-! ### Transfer Engine (chapter 4) -/

/-- SUBMIT_JOB (R58). -/
def State.runSubmitJob (s : State) : Reply :=
  if 8 ≤ s.txe.queue.length then { state := s, result := .queueFull }
  else
    match s.rgw.staging.job.job? with
    | some j => { state := { s with txe := { s.txe with queue := s.txe.queue ++ [j] } }, result := .ok }
    | none => { state := s, result := .badField }

/-- ABORT_ACTIVE (R80). -/
def State.runAbortActive (s : State) : Reply :=
  match s.txe.engine with
  | .running a => { state := { s with txe := { s.txe with engine := .draining a } }, result := .ok }
  | .draining _ => { state := s, result := .ok }
  | .idle | .retiring _ => { state := s, result := .nothingActive }

/-- FLUSH_QUEUED (R82). -/
def State.runFlushQueued (s : State) : Reply :=
  { state := { s with txe := { s.txe with queue := [] } }, result := .ok, arg := BitVec.ofNat 8 s.txe.queue.length }

/-- An engine access in progress keeps running without its job (R84). -/
def WorkAccess.drop : WorkAccess → WorkAccess
  | .lineWrite off d m _ => .lineWrite off d m true
  | .lineRead off ch _ => .lineRead off ch true
  | a => a

/-- An engine Boot read in progress keeps running without its job (R84). -/
def BootAccess.drop (b : BootAccess) : BootAccess := if b.user = .engine then { b with dropped := true } else b

/-- ENGINE_RESET (R83, R84). The arbiter answers the withdrawal of ENGINE's want (R111). -/
def State.runEngineReset (s : State) : Reply :=
  { state :=
      ({ s with
          txe := defaultTxe
          rtu := { s.rtu with pin := none }
          wsc := { s.wsc with access := s.wsc.access.map WorkAccess.drop }
          bsc := { s.bsc with accessor := s.bsc.accessor.map BootAccess.drop, engineRequest := none } } : State).settle
    result := .ok }

/-! ### Usage monitor (section 6.8) -/

/-- MONITOR_START (R119). -/
def State.runMonitorStart (s : State) : Reply :=
  { state := { s with wpa := { s.wpa with counting := true } }, result := .ok }

/-- MONITOR_STOP (R119). -/
def State.runMonitorStop (s : State) : Reply :=
  { state := { s with wpa := { s.wpa with counting := false } }, result := .ok }

/-- SNAPSHOT_MONITOR (R120). -/
def State.runSnapshotMonitor (s : State) : Reply :=
  { state := { s with wpa := { s.wpa with snapshot := s.wpa.live, live := zeroMonitor } }, result := .ok }

/-! ### Auxiliary window (chapter 7) -/

/-- SET_AUX_WINDOW (R131). -/
def State.runSetAuxWindow (s : State) : Reply :=
  let st := s.rgw.staging.aux
  if s.rtu.lock then { state := s, result := .locked }
  else if validAuxWindow st.base st.limit s.straps.workSize then
    { state := { s with amp := { s.amp with windowBase := st.base, windowLimit := st.limit } }, result := .ok }
  else { state := s, result := .badField }

/-! ### Reporting (chapter 8) -/

/-- POP_FAULT (R142). -/
def State.runPopFault (s : State) : Reply :=
  match s.rpu.faults with
  | [] => { state := s, result := .empty }
  | _ :: rest => { state := { s with rpu := { s.rpu with faults := rest } }, result := .ok }

/-- CLEAR_OVERFLOW (R143). -/
def State.runClearOverflow (s : State) : Reply :=
  { state := { s with rpu := { s.rpu with overflow := false, lost := 0#8 } }, result := .ok }

/-- POP_COMPLETION (R147, R79). -/
def State.runPopCompletion (s : State) : Reply :=
  match s.rpu.completions with
  | [] => { state := s, result := .empty }
  | _ :: rest =>
    match s.txe.engine with
    | .retiring r =>
      { state := { s with rpu := { s.rpu with completions := rest ++ [r] }, txe := { s.txe with engine := .idle } }
        result := .ok }
    | _ => { state := { s with rpu := { s.rpu with completions := rest } }, result := .ok }

/-! ### Select lines (chapter 9) -/

/-- COMMIT_SELECT (R157). -/
def State.runCommitSelect (s : State) : Reply :=
  if h : s.rgw.argument.toNat < 4 then
    match s.rgw.staging.select.record? with
    | some r => { state := { s with sdc := { s.sdc with records := s.sdc.records.set s.rgw.argument.toNat r h } }
                  result := .ok }
    | none => { state := s, result := .badField }
  else { state := s, result := .badIndex }

/-- A select record as the select staging record holds it (R158, R177). -/
def SelectRecord.staged (r : SelectRecord) : SelectStaging :=
  { enabled := flagByte r.enabled, space := r.space.code, sizeCode := r.sizeCode, base := r.base
    qualifier := r.qualifier.code, polarity := r.polarity.code, unclaimedOnly := flagByte r.unclaimedOnly }

/-- LOAD_SELECT (R158). -/
def State.runLoadSelect (s : State) : Reply :=
  if h : s.rgw.argument.toNat < 4 then
    { state := { s with rgw := { s.rgw with staging := { s.rgw.staging with
        select := (s.sdc.records[s.rgw.argument.toNat]'h).staged } } }
      result := .ok }
  else { state := s, result := .badIndex }

/-! ### Ports (section 10.6) -/

/-- A port base SET_PORTS accepts: even, from 0x100 to 0xFFE (R171). -/
def validPortBase (p : BitVec 16) : Bool :=
  decide (p.toNat % 2 = 0) && decide (0x100 ≤ p.toNat) && decide (p.toNat ≤ 0xFFE)

/-- SET_PORTS (R171). -/
def State.runSetPorts (s : State) : Reply :=
  if validPortBase s.rgw.staging.ports then
    { state := { s with rgw := { s.rgw with portBase := s.rgw.staging.ports } }, result := .ok }
  else { state := s, result := .badField }

/-! ### The command rows -/

/-- SET_WINDOW, code 0x15. -/
def execSetWindow (c : IoCycle) (s : State) : Host.Outcome State Fault Refusal :=
  s.command c (fun b => decide (b = 0x15#8)) State.runSetWindow

/-- COMMIT_ROUTE, code 0x11. -/
def execCommitRoute (c : IoCycle) (s : State) : Host.Outcome State Fault Refusal :=
  s.command c (fun b => decide (b = 0x11#8)) State.runCommitRoute

/-- LOAD_ROUTE, code 0x12. -/
def execLoadRoute (c : IoCycle) (s : State) : Host.Outcome State Fault Refusal :=
  s.command c (fun b => decide (b = 0x12#8)) State.runLoadRoute

/-- LOCK_ROUTING, code 0x1C. -/
def execLockRouting (c : IoCycle) (s : State) : Host.Outcome State Fault Refusal :=
  s.command c (fun b => decide (b = 0x1C#8)) State.runLockRouting

/-- COMMIT_OVERLAY, code 0x13. -/
def execCommitOverlay (c : IoCycle) (s : State) : Host.Outcome State Fault Refusal :=
  s.command c (fun b => decide (b = 0x13#8)) State.runCommitOverlay

/-- LOAD_OVERLAY, code 0x14. -/
def execLoadOverlay (c : IoCycle) (s : State) : Host.Outcome State Fault Refusal :=
  s.command c (fun b => decide (b = 0x14#8)) State.runLoadOverlay

/-- SUBMIT_JOB, code 0x31. -/
def execSubmitJob (c : IoCycle) (s : State) : Host.Outcome State Fault Refusal :=
  s.command c (fun b => decide (b = 0x31#8)) State.runSubmitJob

/-- ABORT_ACTIVE, code 0x32. -/
def execAbortActive (c : IoCycle) (s : State) : Host.Outcome State Fault Refusal :=
  s.command c (fun b => decide (b = 0x32#8)) State.runAbortActive

/-- FLUSH_QUEUED, code 0x33. -/
def execFlushQueued (c : IoCycle) (s : State) : Host.Outcome State Fault Refusal :=
  s.command c (fun b => decide (b = 0x33#8)) State.runFlushQueued

/-- ENGINE_RESET, code 0x3E. -/
def execEngineReset (c : IoCycle) (s : State) : Host.Outcome State Fault Refusal :=
  s.command c (fun b => decide (b = 0x3E#8)) State.runEngineReset

/-- MONITOR_START, code 0x51. -/
def execMonitorStart (c : IoCycle) (s : State) : Host.Outcome State Fault Refusal :=
  s.command c (fun b => decide (b = 0x51#8)) State.runMonitorStart

/-- MONITOR_STOP, code 0x52. -/
def execMonitorStop (c : IoCycle) (s : State) : Host.Outcome State Fault Refusal :=
  s.command c (fun b => decide (b = 0x52#8)) State.runMonitorStop

/-- SNAPSHOT_MONITOR, code 0x53. -/
def execSnapshotMonitor (c : IoCycle) (s : State) : Host.Outcome State Fault Refusal :=
  s.command c (fun b => decide (b = 0x53#8)) State.runSnapshotMonitor

/-- SET_AUX_WINDOW, code 0x23. -/
def execSetAuxWindow (c : IoCycle) (s : State) : Host.Outcome State Fault Refusal :=
  s.command c (fun b => decide (b = 0x23#8)) State.runSetAuxWindow

/-- POP_FAULT, code 0x41. -/
def execPopFault (c : IoCycle) (s : State) : Host.Outcome State Fault Refusal :=
  s.command c (fun b => decide (b = 0x41#8)) State.runPopFault

/-- CLEAR_OVERFLOW, code 0x43. -/
def execClearOverflow (c : IoCycle) (s : State) : Host.Outcome State Fault Refusal :=
  s.command c (fun b => decide (b = 0x43#8)) State.runClearOverflow

/-- POP_COMPLETION, code 0x42. -/
def execPopCompletion (c : IoCycle) (s : State) : Host.Outcome State Fault Refusal :=
  s.command c (fun b => decide (b = 0x42#8)) State.runPopCompletion

/-- COMMIT_SELECT, code 0x21. -/
def execCommitSelect (c : IoCycle) (s : State) : Host.Outcome State Fault Refusal :=
  s.command c (fun b => decide (b = 0x21#8)) State.runCommitSelect

/-- LOAD_SELECT, code 0x22. -/
def execLoadSelect (c : IoCycle) (s : State) : Host.Outcome State Fault Refusal :=
  s.command c (fun b => decide (b = 0x22#8)) State.runLoadSelect

/-- SET_PORTS, code 0x61. -/
def execSetPorts (c : IoCycle) (s : State) : Host.Outcome State Fault Refusal :=
  s.command c (fun b => decide (b = 0x61#8)) State.runSetPorts

/-- UNKNOWN_COMMAND (R169): every code Table 11-6 does not assign. -/
def execUnknownCommand (c : IoCycle) (s : State) : Host.Outcome State Fault Refusal :=
  s.command c (fun b => !assignedCode b) fun s => { state := s, result := .unknownCommand }

end Sys2Proof.Machine
end

