-- ==== Sys2Proof/Machine/Resets.lean ====
section
/-! DEFINITION. Hardware reset: the assertion and the release of RESET (R14, R55, R85, R112, R133, R150, R155). -/

namespace Sys2Proof.Machine

/-- Whether byte `k` of an abandoned write at a Work offset holds the written value: a free value (R55, log entry 2). -/
def State.landed (s : State) (off : Offset) (k : Nat) : Bool :=
  Config.abandonedByteLanded s.freeCount (off.toNat + k)

/-- The lanes of an abandoned write of a word: each carried byte holds its old value or the written value, with parity
to match (R55, R133). -/
def State.abandonLanes (off : Offset) (lanes : Lanes) (data : Word) (s : State) : State :=
  s.writeWork off.toNat (fun k => carries lanes k && s.landed off k) (getByte data) 4

/-- The Work Store access in progress is abandoned (R55, R85, R112, R133). -/
def State.abandonAccess (s : State) : State :=
  match s.wsc.access with
  | some .drain =>
    match s.hbi.buffer with
    | e :: _ => s.abandonLanes e.offset e.lanes e.data
    | [] => s
  | some .hostWrite =>
    match s.hbi.cycle with
    | some c => s.abandonLanes c.offset c.lanes c.data
    | none => s
  | some (.lineWrite off data mask _) =>
    s.writeWork off.toNat (fun k => !mask.getLsbD k && s.landed off k) (lineByte data) 32
  | some (.aux _) =>
    match s.amp.cycle with
    | .access c => if c.dir = .write then s.abandonLanes c.offset c.lanes c.data else s
    | _ => s
  | some (.hostRead _) | some (.lineRead _ _ _) | none => s

/-- What the assertion of RESET empties, stops and deasserts; what it leaves is loaded at the release (log entry 12). -/
def State.clearForReset (s : State) : State :=
  { s with
    hbi := { s.hbi with cycle := none, unclaimed := false, buffer := [], timerRunning := false }
    rtu := { s.rtu with pin := none, overlays := Vector.ofFn fun i => { s.rtu.overlays[i] with hits := 0#16 } }
    txe := defaultTxe
    wsc := { s.wsc with access := none }
    wpa := { s.wpa with
      owner := none, lastOwner := .aux, guarantee := .stopped, idle := .stopped
      guarantees := defaultWpa.guarantees, idleWindows := defaultWpa.idleWindows }
    bsc := { s.bsc with accessor := none, hostRequest := none, engineRequest := none }
    amp := { s.amp with cycle := .noCycle }
    rpu := defaultRpu
    rgw := { s.rgw with staging := zeroStaging }
    inReset := true
    pins := defaultPins
    freeCount := s.freeCount + 1 }

/-- RESET_ASSERT (R55, R85, R112, R133, R150, R155). -/
def execResetAssert (s : State) : Host.Outcome State Fault Refusal :=
  if s.inReset then .refused .notDue else s.abandonAccess.clearForReset.done

/-- The state at the release of RESET: every register at its reset value for the sampled straps; the stores, the levels
of AREQ and ASTB and a cycle that another device answers are left as they are (R14, R55, R133). -/
def State.release (st : Straps) (s : State) : State :=
  { State.afterReset st with
    hbi := { defaultHbi with unclaimed := s.hbi.unclaimed }
    amp := st.amp s.amp.areq s.amp.astb
    boot := s.boot
    work := s.work
    workParity := s.workParity
    freeCount := s.freeCount
    pending := s.pending }

/-- RESET_RELEASE (R1, R14, R15, R103, R112, R133): an asserted AREQ takes part in the first grant from NONE. -/
def execResetRelease (st : Straps) (s : State) : Host.Outcome State Fault Refusal :=
  if s.inReset then (s.release st).settle.done else .refused .notDue

end Sys2Proof.Machine
end

