-- ==== Sys2Proof/Machine/Dispatch.lean ====
section
/-! DEFINITION. The dispatch: one arm for each command, one direct call of its meaning. -/

namespace Sys2Proof.Machine

/-- The effect of a command on everything but the queue. -/
def exec (i : Instr) (s : State) : Host.Outcome State Fault Refusal :=
  match i with
  | .hostMemoryCycleArrival c => Sys2Proof.Machine.execHostMemoryCycleArrival c s
  | .unclaimedIoCycle dir c => Sys2Proof.Machine.execUnclaimedIoCycle dir c s
  | .unclaimedCycleEnd => Sys2Proof.Machine.execUnclaimedCycleEnd s
  | .hostWaitTimeout => Sys2Proof.Machine.execHostWaitTimeout s
  | .hostBootReadComplete => Sys2Proof.Machine.execHostBootReadComplete s
  | .hostWorkReadComplete => Sys2Proof.Machine.execHostWorkReadComplete s
  | .unpostedWriteComplete => Sys2Proof.Machine.execUnpostedWriteComplete s
  | .drainComplete => Sys2Proof.Machine.execDrainComplete s
  | .activation => Sys2Proof.Machine.execActivation s
  | .engineBootReadComplete => Sys2Proof.Machine.execEngineBootReadComplete s
  | .lineWriteComplete => Sys2Proof.Machine.execLineWriteComplete s
  | .verifyReadComplete => Sys2Proof.Machine.execVerifyReadComplete s
  | .arbiterTick => Sys2Proof.Machine.execArbiterTick s
  | .guaranteeExpiry => Sys2Proof.Machine.execGuaranteeExpiry s
  | .idleExpiry => Sys2Proof.Machine.execIdleExpiry s
  | .areqAssert => Sys2Proof.Machine.execAreqAssert s
  | .areqDeassert => Sys2Proof.Machine.execAreqDeassert s
  | .auxCycleStart c => Sys2Proof.Machine.execAuxCycleStart c s
  | .auxAccessComplete => Sys2Proof.Machine.execAuxAccessComplete s
  | .astbDrop => Sys2Proof.Machine.execAstbDrop s
  | .resetAssert => Sys2Proof.Machine.execResetAssert s
  | .resetRelease straps => Sys2Proof.Machine.execResetRelease straps s
  | .indexPortWrite c => Sys2Proof.Machine.execIndexPortWrite c s
  | .stagingWrite c => Sys2Proof.Machine.execStagingWrite c s
  | .postingEnableWrite c => Sys2Proof.Machine.execPostingEnableWrite c s
  | .hostWaitLimitWrite c => Sys2Proof.Machine.execHostWaitLimitWrite c s
  | .parityTerminationWrite c => Sys2Proof.Machine.execParityTerminationWrite c s
  | .parityCheckEnableWrite c => Sys2Proof.Machine.execParityCheckEnableWrite c s
  | .bootAccessTimeWrite c => Sys2Proof.Machine.execBootAccessTimeWrite c s
  | .guaranteeWrite c => Sys2Proof.Machine.execGuaranteeWrite c s
  | .idleWindowWrite c => Sys2Proof.Machine.execIdleWindowWrite c s
  | .interruptMaskWrite c => Sys2Proof.Machine.execInterruptMaskWrite c s
  | .registerWrite c => Sys2Proof.Machine.execRegisterWrite c s
  | .setWindow c => Sys2Proof.Machine.execSetWindow c s
  | .commitRoute c => Sys2Proof.Machine.execCommitRoute c s
  | .loadRoute c => Sys2Proof.Machine.execLoadRoute c s
  | .lockRouting c => Sys2Proof.Machine.execLockRouting c s
  | .commitOverlay c => Sys2Proof.Machine.execCommitOverlay c s
  | .loadOverlay c => Sys2Proof.Machine.execLoadOverlay c s
  | .submitJob c => Sys2Proof.Machine.execSubmitJob c s
  | .abortActive c => Sys2Proof.Machine.execAbortActive c s
  | .flushQueued c => Sys2Proof.Machine.execFlushQueued c s
  | .engineReset c => Sys2Proof.Machine.execEngineReset c s
  | .monitorStart c => Sys2Proof.Machine.execMonitorStart c s
  | .monitorStop c => Sys2Proof.Machine.execMonitorStop c s
  | .snapshotMonitor c => Sys2Proof.Machine.execSnapshotMonitor c s
  | .setAuxWindow c => Sys2Proof.Machine.execSetAuxWindow c s
  | .popFault c => Sys2Proof.Machine.execPopFault c s
  | .clearOverflow c => Sys2Proof.Machine.execClearOverflow c s
  | .popCompletion c => Sys2Proof.Machine.execPopCompletion c s
  | .commitSelect c => Sys2Proof.Machine.execCommitSelect c s
  | .loadSelect c => Sys2Proof.Machine.execLoadSelect c s
  | .setPorts c => Sys2Proof.Machine.execSetPorts c s
  | .unknownCommand c => Sys2Proof.Machine.execUnknownCommand c s
  | .astbAssertionDuringAccess => Sys2Proof.Machine.execAstbAssertionDuringAccess s

end Sys2Proof.Machine
end

