-- ==== Sys2Proof/Safety.lean ====
section
/-! DEFINITION. What the claims about the part are stated in: the properties of a state that the manual says hold at all
times, and the ways a command's effect is described (a register window write, bytes written into the Work Store, the
port settled after it). -/

namespace Sys2Proof.Machine

/-! ### Properties of a state -/

/-- The two stores, the parity bits and the masks of the Written-Byte Map stand in their one canonical form. -/
def State.StoresCanonical (s : State) : Prop :=
  Memory.wf s.boot = true ∧ Memory.wf s.work = true ∧ ParityBits.wf s.workParity = true
    ∧ ∀ m ∈ s.txe.map, LineMasks.wf m.masks = true

/-- No two neighbours of a Fault Queue agree in kind, source and address, unless the older has 255 repeats (R136). -/
def Coalesced : List FaultRecord → Prop
  | a :: b :: rest => (a.agrees b = true → a.repeats = 255#8) ∧ Coalesced (b :: rest)
  | _ => True

/-- The bounds of the queues and of what is counted beside them (R44, R59, R135, R136, R138, R144). -/
def State.QueuesLegal (s : State) : Prop :=
  s.hbi.buffer.length ≤ 4 ∧ s.txe.queue.length ≤ 8 ∧ s.rpu.faults.length ≤ 8 ∧ s.rpu.completions.length ≤ 8
    ∧ (∀ r ∈ s.rpu.faults, r.repeats ≠ 0#8) ∧ Coalesced s.rpu.faults
    ∧ (s.rpu.lost ≠ 0#8 → s.rpu.overflow = true)
    ∧ (s.txe.engine.code = 3#8 → s.rpu.completions.length = 8)

/-- Every field of the configuration holds one of its listed values (R1, R6, R25, R117, R121, R151, R159). -/
def State.ConfigValid (s : State) : Prop :=
  s.rtu.windowBase.toNat % Config.windowBytes = 0
    ∧ (∀ b : Fin 64, validBase s.rtu.routes[b].bootBase s.straps.bootSize = true
        ∧ validBase s.rtu.routes[b].workBase s.straps.workSize = true)
    ∧ (∀ i : Fin 16, validPage s.rtu.overlays[i].workPage s.straps.workSize = true)
    ∧ validAuxWindow s.amp.windowBase s.amp.windowLimit s.straps.workSize = true
    ∧ (∀ k : Fin 4, validRange s.sdc.records[k].space s.sdc.records[k].sizeCode s.sdc.records[k].base = true)
    ∧ validPortBase s.rgw.portBase = true
    ∧ (s.wsc.parityCheck = true → s.straps.parity = true)

/-- The fields of a job are those SUBMIT_JOB accepts (R58). -/
def Job.Legal (j : Job) : Prop :=
  1 ≤ j.lineCount ∧ j.firstLine + j.lineCount ≤ 8192 ∧ (j.kind = .verify → 1 ≤ j.limit.toNat)

/-- The Written-Byte Map an active job holds: armed over its Work range for COPY and FILL, disarmed for VERIFY
(R86, R98). -/
def ActiveJob.HasMap (a : ActiveJob) (map : Option ByteMap) : Prop :=
  if a.job.kind = .verify then map = none
  else map.map (fun m => (m.start, m.lines)) = some (a.workOffset a.job.firstLine, a.job.lineCount)

/-- The counts of an active job: its next line is one of its lines, each line before it was counted once, and a VERIFY
has not reached its mismatch limit (Table 4-3a, R74, R75). -/
def ActiveJob.Counted (a : ActiveJob) : Prop :=
  a.job.firstLine ≤ a.nextLine ∧ a.nextLine < a.job.firstLine + a.job.lineCount
    ∧ a.linesDone = a.nextLine - a.job.firstLine ∧ a.skipped + a.merged + a.mismatches ≤ a.linesDone
    ∧ (a.job.kind = .verify → a.mismatches < a.job.limit.toNat)

/-- The Transfer Engine, its pin and its map (R21, R59, R60, R86): an active job pins its block and holds its map; with
no active job nothing is pinned and the map is disarmed. -/
def State.EngineLegal (s : State) : Prop :=
  (∀ j ∈ s.txe.queue, j.Legal)
    ∧ match s.txe.engine.active with
      | some a => a.job.Legal ∧ a.Counted ∧ s.rtu.pin = some a.job.block ∧ a.HasMap s.txe.map
      | none => s.rtu.pin = none ∧ s.txe.map = none

/-- Whether a cycle in a state of Table 3-2 waits. -/
def HostStage.waits (st : HostStage) : Bool := st.awaited.isSome

/-- The host cycle in progress (R40, R41, R50): its state of Table 3-2 fits its direction, the buffer and the Boot Store
Controller, and the timer runs exactly while it waits under a limit. -/
def State.HostLegal (s : State) : Prop :=
  (s.hbi.unclaimed = true → s.hbi.cycle = none)
    ∧ (s.hbi.timerRunning = true ↔ s.hbi.waitLimit ≠ 0#8 ∧ ∃ c ∈ s.hbi.cycle, c.stage.waits = true)
    ∧ (s.bsc.hostRequest ≠ none ↔ ∃ c ∈ s.hbi.cycle, c.stage = .awaitBoot)
    ∧ ((∃ b ∈ s.bsc.accessor, b.user = .hostPath) ↔ ∃ c ∈ s.hbi.cycle, c.stage = .bootAccess)
    ∧ ∀ c ∈ s.hbi.cycle,
        match c.stage with
        | .awaitBoot | .bootAccess => c.dir = .read
        | .awaitDrain => s.hbi.buffer ≠ []
        | .awaitWork | .workAccess => s.hbi.buffer = []
        | .awaitSlot => c.dir = .write ∧ s.hbi.buffer.length = 4

/-- The Boot Store port (R67, R113): a request waits only behind an access in progress, and the engine's request and its
read in progress are those of its line. -/
def State.BootPortLegal (s : State) : Prop :=
  (s.bsc.accessor = none → s.bsc.hostRequest = none ∧ s.bsc.engineRequest = none)
    ∧ (∀ b ∈ s.bsc.accessor, b.user = .hostPath → b.dropped = false)
    ∧ (s.bsc.engineRequest = s.txe.engine.active.bind fun a =>
        if a.stage = .awaitBoot then some (a.bootOffset a.nextLine) else none)
    ∧ ((∃ b ∈ s.bsc.accessor, b.user = .engine ∧ b.dropped = false) ↔
        ∃ a ∈ s.txe.engine.active, a.stage = .bootRead)
    ∧ (∀ b ∈ s.bsc.accessor, b.user = .engine → b.dropped = false →
        ∃ a ∈ s.txe.engine.active, b.offset = a.bootOffset a.nextLine)

/-- Whether a line is in a Work Store access (Table 4-3). -/
def LineStage.inAccess : LineStage → Bool
  | .workWrite | .workRead _ => true
  | .awaitBoot | .bootRead | .awaitWork _ => false

/-- Whether an access, not dropped, is the one a line's stage is in. -/
def LineStage.isIn : LineStage → WorkAccess → Bool
  | .workWrite, .lineWrite _ _ _ false => true
  | .workRead _, .lineRead _ _ false => true
  | _, _ => false

/-- Whether an aux cycle is in its access (Table 7-2). -/
def AuxState.inAccess : AuxState → Bool
  | .access _ => true
  | .noCycle | .answered _ _ => false

/-- What makes the Work Store access in progress: the oldest entry, the host cycle, the line in progress, or the aux
cycle; and each of them that is in its access has it (R47, R43, R68, R126). An access ENGINE_RESET dropped belongs to no
job (R84). -/
def State.AccessLegal (s : State) : Prop :=
  (match s.wsc.access with
    | none => True
    | some .drain => s.hbi.buffer ≠ []
    | some (.hostRead _) => ∃ c ∈ s.hbi.cycle, c.stage = .workAccess ∧ c.dir = .read
    | some .hostWrite => ∃ c ∈ s.hbi.cycle, c.stage = .workAccess ∧ c.dir = .write
    | some (.lineWrite off d m dropped) =>
      dropped = false → ∃ a ∈ s.txe.engine.active, a.stage.isIn (.lineWrite off d m false) = true
        ∧ a.job.kind ≠ .verify ∧ off = a.workOffset a.nextLine
    | some (.lineRead off check dropped) =>
      dropped = false → ∃ a ∈ s.txe.engine.active, a.stage.isIn (.lineRead off check false) = true
        ∧ a.job.kind = .verify ∧ off = a.workOffset a.nextLine
    | some (.aux _) => s.amp.cycle.inAccess = true)
    ∧ (∀ c ∈ s.hbi.cycle, c.stage = .workAccess →
        ∃ w ∈ s.wsc.access, w = .hostWrite ∨ w = .hostRead true ∨ w = .hostRead false)
    ∧ (∀ a ∈ s.txe.engine.active, a.stage.inAccess = true → ∃ w ∈ s.wsc.access, a.stage.isIn w = true)
    ∧ (s.amp.cycle.inAccess = true → ∃ w ∈ s.wsc.access, w.requester = .aux)

/-- The Work Store port (R100, R102, R105, R106, R108): the access in progress is the owner's; with none in progress the
arbiter has nothing left to do, and an owner that wants the port is an idle AUX. -/
def State.PortLegal (s : State) : Prop :=
  (∀ a ∈ s.wsc.access, s.wpa.owner = some a.requester)
    ∧ (s.wpa.owner = none ↔ s.wpa.guarantee = .stopped)
    ∧ (s.wpa.owner = none → s.wpa.idle = .stopped)
    ∧ (s.wsc.access ≠ none → s.wpa.idle = .stopped)
    ∧ (s.wpa.idle ≠ .running 0)
    ∧ (s.wsc.access = none →
        match s.wpa.owner with
        | none => ∀ r, s.wants r = false
        | some o =>
          (o ≠ .aux → s.wants o = false)
            ∧ (s.otherWants o = true → s.wpa.guarantee ≠ .expired)
            ∧ (s.otherWants o = true ↔ s.wpa.idle ≠ .stopped))

/-- The Auxiliary Master Port (R121, R128): an answered cycle waits with ASTB asserted. -/
def State.AuxLegal (s : State) : Prop :=
  ∀ c a, s.amp.cycle = .answered c a → s.amp.astb = true

/-- Nothing is held or in progress while RESET is asserted (R39, R55, R85, R112, R133, R150). -/
def State.ResetLegal (s : State) : Prop :=
  s.inReset = true →
    s.hbi.cycle = none ∧ s.hbi.buffer = [] ∧ s.txe = defaultTxe ∧ s.wsc.access = none ∧ s.wpa.owner = none
      ∧ s.bsc.accessor = none ∧ s.amp.cycle = .noCycle ∧ s.rpu = defaultRpu

/-- INT, AGNT, ADONE, AERR and AD are what the state calls for (R109, R121, R149). -/
def State.PinsFollow (s : State) : Prop :=
  s.pins.int = s.intLevel ∧ s.pins.agnt = s.agntLevel ∧ s.pins.adone = s.amp.cycle.adone
    ∧ s.pins.aerr = s.amp.cycle.aerr ∧ s.pins.ad = s.amp.cycle.driven

/-- The blocks agree with one another: every property of the requesters, the two store ports, the accesses on them and
the outputs. -/
def State.Consistent (s : State) : Prop :=
  s.QueuesLegal ∧ s.EngineLegal ∧ s.HostLegal ∧ s.BootPortLegal ∧ s.AccessLegal ∧ s.PortLegal ∧ s.AuxLegal
    ∧ s.ResetLegal ∧ s.PinsFollow

/-- The select lines hold the decision of the host cycle in progress, and between host cycles their inactive levels; while
RESET is asserted they are high (R154, R155). -/
def State.SelectsFollow (s : State) : Prop :=
  s.pins.sel = (if s.busFree then s.restLevels else s.pins.selCycle)
    ∧ (s.inReset = true → s.pins.sel = 0xF#4 ∧ s.pins.selCycle = 0xF#4)

/-! ### When a command is due -/

/-- The cycle writes, through the data port, a byte `b` to an index `i` with `p i b` (R160). -/
def State.Writes (s : State) (c : IoCycle) (p : Byte → Byte → Prop) : Prop :=
  ∃ i b : Byte, s.dataPortWrite c = some (i, b) ∧ p i b

/-- The cycle writes a command's code to the command register (R167). -/
def State.Spells (s : State) (c : IoCycle) (code : Byte) : Prop := s.Writes c fun i b => i = 0x04#8 ∧ b = code

/-- Whether the event of a command can come about in a state: an access ends only while it is in progress, a timer
expires only while it is due, a pin changes only to the other level, and a register window cycle is the row it
spells. -/
def State.Due (s : State) : Instr → Prop
  | .hostMemoryCycleArrival _ => True
  | .unclaimedIoCycle dir c => s.inReset = true ∨ s.claimsIo c = false ∨ dir = .read
  | .unclaimedCycleEnd => s.hbi.cycle = none
  | .hostWaitTimeout => ∃ c, s.hbi.cycle = some c ∧ c.stage.waits = true ∧ s.hbi.timerRunning = true
  | .hostBootReadComplete => (∃ b, s.bsc.accessor = some b ∧ b.user = .hostPath) ∧ s.hbi.cycle ≠ none
  | .hostWorkReadComplete => (∃ k, s.wsc.access = some (.hostRead k)) ∧ s.hbi.cycle ≠ none
  | .unpostedWriteComplete => s.wsc.access = some .hostWrite ∧ s.hbi.cycle ≠ none
  | .drainComplete => s.wsc.access = some .drain ∧ s.hbi.buffer ≠ []
  | .activation => s.txe.engine = .idle ∧ s.txe.queue ≠ []
  | .engineBootReadComplete => ∃ b, s.bsc.accessor = some b ∧ b.user = .engine
  | .lineWriteComplete => ∃ off d m x, s.wsc.access = some (.lineWrite off d m x)
  | .verifyReadComplete =>
    (∃ off k, s.wsc.access = some (.lineRead off k true))
      ∨ ((∃ off k, s.wsc.access = some (.lineRead off k false))
          ∧ ∃ a d, s.txe.engine.active = some a ∧ a.stage = .workRead d)
  | .arbiterTick => True
  | .guaranteeExpiry => s.wpa.guarantee = .running 1
  | .idleExpiry => s.wpa.idle = .running 1
  | .areqAssert => s.amp.areq = false
  | .areqDeassert => s.amp.areq = true
  | .auxCycleStart _ => s.amp.astb = false ∧ (s.inReset = true ∨ s.amp.cycle = .noCycle)
  | .auxAccessComplete => (∃ k, s.wsc.access = some (.aux k)) ∧ ∃ c, s.amp.cycle = .access c
  | .astbDrop => s.amp.astb = true
  | .astbAssertionDuringAccess => s.amp.astb = false ∧ ∃ c, s.amp.cycle = .access c
  | .resetAssert => s.inReset = false
  | .resetRelease _ => s.inReset = true
  | .indexPortWrite c => s.inReset = false ∧ s.reachesIndex c = true ∧ s.reachesData c = false
  | .stagingWrite c => s.Writes c fun i _ => indexClass i = .staging
  | .postingEnableWrite c => s.Writes c fun i _ => i = 0x18#8
  | .hostWaitLimitWrite c => s.Writes c fun i _ => i = 0x19#8
  | .parityTerminationWrite c => s.Writes c fun i _ => i = 0x1A#8
  | .parityCheckEnableWrite c => s.Writes c fun i _ => i = 0x1B#8
  | .bootAccessTimeWrite c => s.Writes c fun i _ => i = 0x1C#8
  | .interruptMaskWrite c => s.Writes c fun i _ => i = 0x1D#8
  | .guaranteeWrite c => s.Writes c fun i _ => i = 0x1E#8 ∨ i = 0x1F#8 ∨ i = 0x20#8
  | .idleWindowWrite c => s.Writes c fun i _ => i = 0x21#8 ∨ i = 0x22#8 ∨ i = 0x23#8
  | .registerWrite c => s.Writes c fun i _ => i = 0x05#8 ∨ indexClass i ∈
      [.unimplemented, .result, .status, .view, .strap, .identification, .monitor]
  | .setWindow c => s.Spells c 0x15#8
  | .commitRoute c => s.Spells c 0x11#8
  | .loadRoute c => s.Spells c 0x12#8
  | .lockRouting c => s.Spells c 0x1C#8
  | .commitOverlay c => s.Spells c 0x13#8
  | .loadOverlay c => s.Spells c 0x14#8
  | .submitJob c => s.Spells c 0x31#8
  | .abortActive c => s.Spells c 0x32#8
  | .flushQueued c => s.Spells c 0x33#8
  | .engineReset c => s.Spells c 0x3E#8
  | .monitorStart c => s.Spells c 0x51#8
  | .monitorStop c => s.Spells c 0x52#8
  | .snapshotMonitor c => s.Spells c 0x53#8
  | .setAuxWindow c => s.Spells c 0x23#8
  | .popFault c => s.Spells c 0x41#8
  | .clearOverflow c => s.Spells c 0x43#8
  | .popCompletion c => s.Spells c 0x42#8
  | .commitSelect c => s.Spells c 0x21#8
  | .loadSelect c => s.Spells c 0x22#8
  | .setPorts c => s.Spells c 0x61#8
  | .unknownCommand c => s.Writes c fun i b => i = 0x04#8 ∧ assignedCode b = false

/-! ### What the routing lock freezes (R23) -/

/-- The fields the routing lock freezes are the same in both states: the Routing Table, the Overlay Table but for the
hit counts, the window and the aux window (R23). -/
def State.SameRouting (s t : State) : Prop :=
  t.rtu.routes = s.rtu.routes
    ∧ (∀ i : Fin 16, { t.rtu.overlays[i] with hits := 0#16 } = { s.rtu.overlays[i] with hits := 0#16 })
    ∧ t.rtu.windowBase = s.rtu.windowBase ∧ t.rtu.windowEnable = s.rtu.windowEnable
    ∧ t.amp.windowBase = s.amp.windowBase ∧ t.amp.windowLimit = s.amp.windowLimit

/-! ### How an effect is described -/

/-- The part takes the cycle as a data port write of the byte `b` to the index `i`: no host cycle is in progress, RESET
is not asserted, the cycle reaches the data port, and these are the index it selects and the byte it carries there
(R39, R160). -/
def State.TakesWrite (s : State) (c : IoCycle) (i b : Byte) : Prop :=
  s.busFree = true ∧ s.dataPortWrite c = some (i, b)

/-- The part takes the cycle as the command of a code: a data port write of the code to the command register, index
0x04 (R167). -/
def State.TakesCommand (s : State) (c : IoCycle) (code : Byte) : Prop := s.TakesWrite c 0x04#8 code

/-- The state after a register window write `c` that `s` takes, whose own effect is `u` (R149, R154, R160): the index is
the one the cycle selects; the cycle has ended ready, its select lines were decided with the cycle claimed and are back
at their inactive levels; the outputs follow. -/
def State.windowWritten (s : State) (c : IoCycle) (u : State) : State :=
  State.drive { u with
    rgw := { u.rgw with index := s.selectedIndex c }
    pins := { u.pins with
      answer := some HostAnswer.readyWrite
      selCycle := s.sdc.cycleLevels .io (wordAddr c.ha) .write true
      sel := u.restLevels } }

/-- The outputs while a host cycle is in progress: no answer yet, and the select lines as decided at its arrival
(R154). -/
def State.openPins (s : State) (space : Space) (addr : HostAddr) (dir : Direction) (claimed : Bool) : Pins :=
  { s.pins with
    answer := none
    sel := s.sdc.cycleLevels space addr dir claimed
    selCycle := s.sdc.cycleLevels space addr dir claimed }

/-- The outputs after a host cycle that the part ended in its arrival event (R154). -/
def State.endedPins (s : State) (space : Space) (addr : HostAddr) (dir : Direction) (a : HostAnswer) : Pins :=
  { s.pins with
    answer := some a
    sel := s.restLevels
    selCycle := s.sdc.cycleLevels space addr dir true }

/-- The outputs after a host cycle that the part ended later than its arrival (R154). -/
def State.answeredPins (s : State) (a : HostAnswer) : Pins := { s.pins with answer := some a, sel := s.restLevels }

/-- The state with the last command code, the result code and the result argument of a command (R167). -/
def State.withResult (s : State) (code : Byte) (r : ResultCode) (arg : Byte) : State :=
  { s with rgw := { s.rgw with lastCommand := code, result := r, resultArg := arg } }

/-- The number of ones among the eight bits of a byte and its parity bit is odd (R116). -/
abbrev OddParity (b : Byte) (p : Bool) : Prop := (((List.range 8).filter fun k => b.getLsbD k).length + p.toNat) % 2 = 1

/-- From `s` to `t` the bytes `off + k` of the Work Store with `k < n` and `sel k` take the data `dat k`, with odd
parity where the PARITY strap is 1, and every other byte and parity bit is as before (R116). -/
def WorkWritten (off n : Nat) (sel : Nat → Bool) (dat : Nat → Byte) (s t : State) : Prop :=
  ∀ a : Nat,
    if off ≤ a ∧ a < off + n ∧ sel (a - off) = true then
      Memory.read t.work a = dat (a - off)
        ∧ (if s.straps.parity then OddParity (dat (a - off)) (ParityBits.read t.workParity a)
           else ParityBits.read t.workParity a = ParityBits.read s.workParity a)
    else
      Memory.read t.work a = Memory.read s.work a
        ∧ ParityBits.read t.workParity a = ParityBits.read s.workParity a

/-- Every byte and parity bit of the Work Store reads in `t` as in `s`. -/
def SameWork (s t : State) : Prop :=
  ∀ a : Nat, Memory.read t.work a = Memory.read s.work a
    ∧ ParityBits.read t.workParity a = ParityBits.read s.workParity a

/-- From `s` to `t` each byte `off + k` of the Work Store with `k < n` and `sel k` holds either its old value or the data
`dat k`, with parity to match, and every other byte and parity bit is as before (R55). -/
def WorkPerhapsWritten (off n : Nat) (sel : Nat → Bool) (dat : Nat → Byte) (s t : State) : Prop :=
  ∀ a : Nat,
    (Memory.read t.work a = Memory.read s.work a ∧ ParityBits.read t.workParity a = ParityBits.read s.workParity a)
      ∨ (off ≤ a ∧ a < off + n ∧ sel (a - off) = true ∧ Memory.read t.work a = dat (a - off)
          ∧ (if s.straps.parity then OddParity (dat (a - off)) (ParityBits.read t.workParity a)
             else ParityBits.read t.workParity a = ParityBits.read s.workParity a))

/-- `t` is `s` but for the Work Store's contents. -/
def ButWork (s t : State) : Prop := t = { s with work := t.work, workParity := t.workParity }

/-- `r` is the first wanting requester in the ring order after a last owner (R103, Table 6-2). -/
def State.FirstInRing (s : State) (last r : Requester) : Prop :=
  let order : List Requester := match last with
    | .hostPath => [.engine, .aux, .hostPath]
    | .engine => [.aux, .hostPath, .engine]
    | .aux => [.hostPath, .engine, .aux]
  s.wants r = true ∧ ∃ before after, order = before ++ r :: after ∧ ∀ x ∈ before, s.wants x = false

/-- The state with other monitor counting and live counters (R118). -/
def State.withMonitor (s : State) (counting : Bool) (live : PerRequester Counters) : State :=
  { s with wpa := { s.wpa with counting := counting, live := live } }

end Sys2Proof.Machine
end

