-- ==== Sys2Proof/WellFormed.lean ====
section
/-! DEFINITION. Which commands are well formed: a host cycle, memory or I/O, carries at least one lane (R39: "any
non-empty subset of lanes 0 to 3"). Alignment and every width hold by the types of the operands; an aux cycle may carry
no lane (R123, step 2). -/

namespace Sys2Proof

/-- The lanes of the host cycle a command arrives on; none for an event that is no host cycle. -/
def Instr.hostLanes : Instr → Option Lanes
  | .hostMemoryCycleArrival c => some c.lanes
  | .unclaimedIoCycle _ c => some c.lanes
  | .indexPortWrite c | .stagingWrite c | .postingEnableWrite c | .hostWaitLimitWrite c | .parityTerminationWrite c
  | .parityCheckEnableWrite c | .bootAccessTimeWrite c | .guaranteeWrite c | .idleWindowWrite c
  | .interruptMaskWrite c | .registerWrite c | .setWindow c | .commitRoute c | .loadRoute c | .lockRouting c
  | .commitOverlay c | .loadOverlay c | .submitJob c | .abortActive c | .flushQueued c | .engineReset c
  | .monitorStart c | .monitorStop c | .snapshotMonitor c | .setAuxWindow c | .popFault c | .clearOverflow c
  | .popCompletion c | .commitSelect c | .loadSelect c | .setPorts c | .unknownCommand c => some c.lanes
  | .unclaimedCycleEnd | .hostWaitTimeout | .hostBootReadComplete | .hostWorkReadComplete | .unpostedWriteComplete
  | .drainComplete | .activation | .engineBootReadComplete | .lineWriteComplete | .verifyReadComplete | .arbiterTick
  | .guaranteeExpiry | .idleExpiry | .areqAssert | .areqDeassert | .auxCycleStart _ | .auxAccessComplete | .astbDrop
  | .resetAssert | .resetRelease _ | .astbAssertionDuringAccess => none

/-- A command is well formed when the host cycle it arrives on, if any, carries a lane. -/
def Instr.wellFormed (i : Instr) : Bool :=
  match i.hostLanes with
  | some lanes => lanes != 0#4
  | none => true

end Sys2Proof
end

