-- ==== Sys2Proof/Certificates/Slice0/Obligations.lean ====
section
/-! DEFINITION. The claims about the part that the provers are asked to prove, from the manual's numbered rules: the
queue, the properties every step keeps, the register window and its commands, host cycles, the Transfer Engine, the
arbiter, the auxiliary port, the reports and the resets. -/

open Sys2Proof Sys2Proof.Machine

/-! ### The queue of commands and the outputs -/

/-- A step carries out the command at the front of the queue on the state with the queue's rest. The queue is the model's
(log entry 5). -/
def Obligations.StepTakesFrontOfQueue : Prop :=
  ∀ (c : Instr) (rest : List Instr) (s : State),
    s.pending = c :: rest → step s = exec c { s with pending := rest }

/-- No command changes the queue, the Boot Store's contents, or, but for the release of hardware reset, the sampled
straps. The queue, and that a command leaves it, is the model's choice (log entry 5). -/
def Obligations.ExecLeavesQueueBootStoreAndStraps : Prop :=
  ∀ (i : Instr) (s t : State), exec i s = .next t →
    t.pending = s.pending ∧ t.boot = s.boot
      ∧ t.straps = (match i with | .resetRelease st => st | _ => s.straps)

/-- After every command: INT is asserted exactly while an unmasked cause holds outside RESET; AGNT exactly while AUX owns
the port with AREQ asserted, or with its access in progress; ADONE, AERR and AD are those of Table 7-2. That AD has no
value but that of an answer is the model's reading (log entry 20). -/
def Obligations.OutputsFollowEveryCommand : Prop :=
  ∀ (i : Instr) (s t : State), exec i s = .next t →
    t.PinsFollow
    ∧ (t.pins.int = true ↔ t.inReset = false
        ∧ ((t.rpu.mask.getLsbD 0 = true ∧ t.rpu.completions ≠ []) ∨ (t.rpu.mask.getLsbD 1 = true ∧ t.rpu.faults ≠ [])
          ∨ (t.rpu.mask.getLsbD 2 = true ∧ t.rpu.overflow = true)
          ∨ (t.rpu.mask.getLsbD 3 = true ∧ t.txe.engine = .idle ∧ t.txe.queue = [])))
    ∧ (t.pins.agnt = true ↔ t.wpa.owner = some .aux
        ∧ ((t.amp.areq = true ∧ t.inReset = false) ∨ ∃ check, t.wsc.access = some (.aux check)))
    ∧ match t.amp.cycle with
      | .noCycle => t.pins.adone = false ∧ t.pins.aerr = false ∧ t.pins.ad = none
      | .access _ => t.pins.adone = false ∧ t.pins.aerr = false ∧ t.pins.ad = none
      | .answered _ a => t.pins.adone = true ∧ t.pins.aerr = a.error ∧ t.pins.ad = a.data

/-- A command that is due in a state (`State.Due`) completes; one that is not due stops with `notDue`, or with
`cycleSpellsAnother` where it is an I/O cycle that does not spell its row; a host cycle on a bus where the previous one
has not ended stops with `hostBusOccupied`, and one that carries no lane with `noLanes`. That such events stop is the
model's choice (log entries 6 and 9). -/
def Obligations.DueCommandsCompleteOthersStop : Prop :=
  ∀ (i : Instr) (s : State),
    (i.wellFormed = true → i.hostLanes ≠ none → s.busFree = false → exec i s = .fault .hostBusOccupied)
    ∧ (i.wellFormed = true → (i.hostLanes ≠ none → s.busFree = true) →
        (s.Due i → ∃ t, exec i s = .next t)
        ∧ (¬ s.Due i → exec i s = .refused (if i.hostLanes = none then .notDue else .cycleSpellsAnother)))
    ∧ (∀ c, i = .hostMemoryCycleArrival c → c.lanes = 0#4 → exec i s = .refused .noLanes)
    ∧ (∀ dir c, i = .unclaimedIoCycle dir c → c.lanes = 0#4 → exec i s = .refused .noLanes)

/-- Only the completion of a write access and the abandonment of one by hardware reset change the Work Store. -/
def Obligations.OnlyWriteCompletionsChangeWorkStore : Prop :=
  ∀ (i : Instr) (s t : State), exec i s = .next t →
    i ∉ [.drainComplete, .unpostedWriteComplete, .lineWriteComplete, .auxAccessComplete, .resetAssert] → SameWork s t

/-! ### Properties that every step keeps -/

/-- Every property the invariants below speak of holds after reset. The straps, the levels of AREQ and ASTB and the empty
contents of the stores are the model's choice (log entries 1, 3 and 21). -/
def Obligations.ResetStateIsLegal : Prop :=
  State.reset.StoresCanonical ∧ State.reset.ConfigValid ∧ State.reset.Consistent ∧ State.reset.SelectsFollow

/-- Every step keeps the canonical form of the lists that hold the stores, the parity bits and the masks. This form,
over the contents an unlisted address has, is the model's own representation (log entry 1), and no rule of the manual. -/
def Obligations.StepKeepsStoresCanonical : Prop :=
  ∀ s t : State, s.StoresCanonical → step s = .next t → t.StoresCanonical

/-- Every step keeps the bounds of the queues, the coalescing of the Fault Queue and the rule of RETIRING. -/
def Obligations.StepKeepsQueuesLegal : Prop :=
  ∀ s t : State, s.QueuesLegal → step s = .next t → t.QueuesLegal

/-- Every step keeps every field of the configuration at one of its listed values. -/
def Obligations.StepKeepsConfigValid : Prop :=
  ∀ s t : State, s.ConfigValid → step s = .next t → t.ConfigValid

/-- Every step keeps the pin, the map and the counts those of the active job. -/
def Obligations.StepKeepsEngineLegal : Prop :=
  ∀ s t : State, s.EngineLegal → step s = .next t → t.EngineLegal

/-- Every step keeps the host cycle in progress legal, and the Boot Store port's requests and access those of the host
cycle and the line in progress. -/
def Obligations.StepKeepsHostAndBootPortLegal : Prop :=
  ∀ s t : State, s.Consistent → step s = .next t → t.HostLegal ∧ t.BootPortLegal

/-- Every step keeps the Work Store access in progress the one its requester is in. -/
def Obligations.StepKeepsAccessLegal : Prop :=
  ∀ s t : State, s.Consistent → step s = .next t → t.AccessLegal ∧ t.AuxLegal ∧ t.ResetLegal

/-- Every step keeps the Work Store port settled: the access in progress is the owner's, and with none in progress no
grant, no handover and no access is due. -/
def Obligations.StepKeepsPortLegal : Prop :=
  ∀ s t : State, s.Consistent → step s = .next t → t.PortLegal

/-- Every step keeps the select lines at the decision of the cycle in progress, or at rest between cycles. -/
def Obligations.StepKeepsSelectsFollow : Prop :=
  ∀ s t : State, s.HostLegal → s.SelectsFollow → step s = .next t → t.SelectsFollow

/-- The routing lock: LOCK_ROUTING sets it, status register 0x13 shows it, the release of hardware reset clears it, and
while it is set every other command leaves it set and leaves the Routing Table, the Overlay Table but for the hit
counts, the window and the aux window as they are. That the assertion of RESET too leaves them, so that they change only
at its release, is the model's reading (log entry 12). -/
def Obligations.LockFreezesRouting : Prop :=
  (∀ (s : State) (c : IoCycle), s.TakesCommand c 0x1C#8 →
      exec (.lockRouting c) s
        = .next (s.windowWritten c ({ s with rtu := { s.rtu with lock := true } }.withResult 0x1C#8 .ok 0#8)))
    ∧ (∀ s : State, s.readRegister 0x13#8 = if s.rtu.lock then 1#8 else 0#8)
    ∧ (∀ (st : Straps) (s t : State), exec (.resetRelease st) s = .next t → t.rtu.lock = false)
    ∧ ∀ (i : Instr) (s t : State), (∀ st, i ≠ .resetRelease st) → exec i s = .next t → s.rtu.lock = true →
        t.rtu.lock = true ∧ State.SameRouting s t

/-- The usage monitor only watches: with any other counting flag and live counters every command but SNAPSHOT_MONITOR
answers the same next state, but for the counting flag and the live counters. -/
def Obligations.UsageMonitorOnlyWatches : Prop :=
  ∀ (i : Instr) (s t : State) (counting : Bool) (live : PerRequester Counters),
    (∀ c, i ≠ .snapshotMonitor c) → exec i s = .next t →
      ∃ counting' live', exec i (s.withMonitor counting live) = .next (t.withMonitor counting' live')

/-! ### The register window -/

/-- The two ports: the index port lies at the port base and the data port above it, each on the lane its address gives;
a cycle that carries both lanes selects with its own index byte. INDEX_PORT_WRITE stores the byte of the index lane as
the index and changes nothing else; a read of the index port returns the index as it stands. -/
def Obligations.PortsSelectByLaneAndIndexIsStored : Prop :=
  (∀ (s : State) (c : IoCycle),
      let p := s.rgw.portBase.toNat
      let w := (wordAddr c.ha).toNat
      (s.reachesIndex c = true ↔ w ≤ p ∧ p < w + 4 ∧ carries c.lanes (p % 4) = true)
        ∧ (p % 2 = 0 → (s.reachesData c = true ↔ w ≤ p + 1 ∧ p + 1 < w + 4 ∧ carries c.lanes ((p + 1) % 4) = true))
        ∧ (s.claimsIo c = true ↔ s.inReset = false ∧ (s.reachesIndex c = true ∨ s.reachesData c = true))
        ∧ ∀ i b : Byte, s.dataPortWrite c = some (i, b) ↔
            s.inReset = false ∧ s.reachesData c = true
              ∧ i = (if s.reachesIndex c then getByte c.data (p % 4) else s.rgw.index)
              ∧ b = getByte c.data (p % 4 + 1))
    ∧ (∀ (s : State) (c : IoCycle),
      s.busFree = true → s.inReset = false → s.reachesIndex c = true → s.reachesData c = false →
        exec (.indexPortWrite c) s = .next (s.windowWritten c s)
          ∧ s.selectedIndex c = getByte c.data (s.rgw.portBase.toNat % 4))
    ∧ ∀ (s : State) (c : IoCycle), carries c.lanes (indexLane s.rgw.portBase) = true →
        (s.portRead c).toList.getD (indexLane s.rgw.portBase) none = some s.rgw.index

/-- STAGING_WRITE stores one staging byte: it reads back as written, but for the size code, of which bits 4 to 0 are
stored, and every other staging byte reads as before. Each field lies at the index Table 11-4 gives it. -/
def Obligations.StagingWriteStoresOneByte : Prop :=
  (∀ (s : State) (c : IoCycle) (i b : Byte), s.TakesWrite c i b → indexClass i = .staging →
      exec (.stagingWrite c) s
        = .next (s.windowWritten c { s with rgw := { s.rgw with staging := s.rgw.staging.store i b } }))
    ∧ (∀ (st : Staging) (i j b : Byte), indexClass i = .staging → indexClass j = .staging →
        (st.store i b).byte j = if j = i then (if i = 0x42#8 then b &&& 0x1F#8 else b) else st.byte j)
    ∧ ∀ st : Staging,
        (st.byte 0x28#8 = st.route.mode ∧ st.byte 0x2B#8 ++ st.byte 0x2A#8 ++ st.byte 0x29#8 = st.route.bootBase
          ∧ st.byte 0x2E#8 ++ st.byte 0x2D#8 ++ st.byte 0x2C#8 = st.route.workBase
          ∧ st.byte 0x2F#8 = st.route.faultAction)
        ∧ (st.byte 0x30#8 = st.overlay.enabled ∧ st.byte 0x32#8 ++ st.byte 0x31#8 = st.overlay.hostPage
          ∧ st.byte 0x35#8 ++ st.byte 0x34#8 ++ st.byte 0x33#8 = st.overlay.workPage
          ∧ st.byte 0x36#8 = st.overlay.scope ∧ st.byte 0x38#8 ++ st.byte 0x37#8 = st.overlay.hits)
        ∧ (st.byte 0x40#8 = st.select.enabled ∧ st.byte 0x41#8 = st.select.space
          ∧ st.byte 0x42#8 = 0#3 ++ st.select.sizeCode
          ∧ st.byte 0x46#8 ++ st.byte 0x45#8 ++ st.byte 0x44#8 ++ st.byte 0x43#8 = st.select.base
          ∧ st.byte 0x47#8 = st.select.qualifier ∧ st.byte 0x48#8 = st.select.polarity
          ∧ st.byte 0x49#8 = st.select.unclaimedOnly)
        ∧ (st.byte 0x50#8 = st.job.tag ∧ st.byte 0x51#8 = st.job.kind ∧ st.byte 0x52#8 = st.job.block
          ∧ st.byte 0x54#8 ++ st.byte 0x53#8 = st.job.firstLine ∧ st.byte 0x56#8 ++ st.byte 0x55#8 = st.job.lineCount
          ∧ st.byte 0x5A#8 ++ st.byte 0x59#8 ++ st.byte 0x58#8 ++ st.byte 0x57#8 = st.job.pattern
          ∧ st.byte 0x5B#8 = st.job.limit ∧ st.byte 0x5C#8 = st.job.action)
        ∧ (st.byte 0x63#8 ++ st.byte 0x62#8 ++ st.byte 0x61#8 ++ st.byte 0x60#8 = st.window.base
          ∧ st.byte 0x64#8 = st.window.enable)
        ∧ (st.byte 0x6A#8 ++ st.byte 0x69#8 ++ st.byte 0x68#8 = st.aux.base
          ∧ st.byte 0x6D#8 ++ st.byte 0x6C#8 ++ st.byte 0x6B#8 = st.aux.limit)
        ∧ st.byte 0x71#8 ++ st.byte 0x70#8 = st.ports

/-- A setting write replaces its setting by a code the setting defines, leaves it as it was for any other code, and
changes nothing else. -/
def Obligations.SettingWritesReplaceSettings : Prop :=
  ∀ (s : State) (c : IoCycle) (i b : Byte), s.TakesWrite c i b →
    (i = 0x18#8 → exec (.postingEnableWrite c) s = .next (s.windowWritten c
        { s with hbi := { s.hbi with postingEnable :=
            if b = 0#8 then false else if b = 1#8 then true else s.hbi.postingEnable } }))
    ∧ (i = 0x19#8 → exec (.hostWaitLimitWrite c) s
        = .next (s.windowWritten c { s with hbi := { s.hbi with waitLimit := b } }))
    ∧ (i = 0x1A#8 → exec (.parityTerminationWrite c) s = .next (s.windowWritten c
        { s with hbi := { s.hbi with parityTermination :=
            if b = 0#8 then false else if b = 1#8 then true else s.hbi.parityTermination } }))
    ∧ (i = 0x1B#8 → exec (.parityCheckEnableWrite c) s = .next (s.windowWritten c
        { s with wsc := { s.wsc with parityCheck :=
            if b = 0#8 then false else if b = 1#8 then s.straps.parity else s.wsc.parityCheck } }))
    ∧ (i = 0x1C#8 → exec (.bootAccessTimeWrite c) s = .next (s.windowWritten c
        { s with bsc := { s.bsc with accessTime := if b.toNat ≤ 7 then b.setWidth 3 else s.bsc.accessTime } }))
    ∧ (i = 0x1D#8 → exec (.interruptMaskWrite c) s
        = .next (s.windowWritten c { s with rpu := { s.rpu with mask := b.setWidth 4 } }))
    ∧ (i = 0x1E#8 ∨ i = 0x1F#8 ∨ i = 0x20#8 → exec (.guaranteeWrite c) s = .next (s.windowWritten c
        { s with wpa := { s.wpa with guarantees :=
          { hostPath := if i = 0x1E#8 then b else s.wpa.guarantees.hostPath
            engine := if i = 0x1F#8 then b else s.wpa.guarantees.engine
            aux := if i = 0x20#8 then b else s.wpa.guarantees.aux } } }))
    ∧ (i = 0x21#8 ∨ i = 0x22#8 ∨ i = 0x23#8 → exec (.idleWindowWrite c) s = .next (s.windowWritten c
        { s with wpa := { s.wpa with idleWindows :=
          { hostPath := if i = 0x21#8 then b else s.wpa.idleWindows.hostPath
            engine := if i = 0x22#8 then b else s.wpa.idleWindows.engine
            aux := if i = 0x23#8 then b else s.wpa.idleWindows.aux } } }))

/-- REGISTER_WRITE to the argument register stores the byte; to a read-only or unimplemented index it ends ready and
changes nothing. -/
def Obligations.RegisterWriteStoresArgumentOnly : Prop :=
  ∀ (s : State) (c : IoCycle) (i b : Byte), s.TakesWrite c i b →
    (i = 0x05#8 → exec (.registerWrite c) s
        = .next (s.windowWritten c { s with rgw := { s.rgw with argument := b } }))
    ∧ (indexClass i ∈ [.unimplemented, .result, .status, .view, .strap, .identification, .monitor] →
        exec (.registerWrite c) s = .next (s.windowWritten c s))

/-- An I/O cycle that reaches neither port is left to the bus and only decides the select lines. A read of the ports
ends ready with the index and the selected register on their lanes and 0xFF on every other carried lane, and changes no
state but the outputs of the cycle. That such a read runs under this command, and that a lane that is not carried has no
value, are the model's choice (log entries 10 and 11). -/
def Obligations.IoCyclesEndOrPassWithoutEffect : Prop :=
  ∀ (s : State) (c : IoCycle), s.busFree = true → c.lanes ≠ 0#4 → s.inReset = false →
    (∀ dir : Direction, s.claimsIo c = false → exec (.unclaimedIoCycle dir c) s = .next (State.drive { s with
        hbi := { s.hbi with unclaimed := true }, pins := s.openPins .io (wordAddr c.ha) dir false }))
    ∧ (s.claimsIo c = true → exec (.unclaimedIoCycle .read c) s = .next (State.drive { s with
        pins := s.endedPins .io (wordAddr c.ha) .read { busError := false, data := some (s.portRead c) } }))
    ∧ ∀ k : Fin 4, (s.portRead c)[k] =
        if carries c.lanes k = false then none
        else if k.val = indexLane s.rgw.portBase then some s.rgw.index
        else if k.val = dataLane s.rgw.portBase then some (s.readRegister s.rgw.index)
        else some 0xFF#8

/-- What every register but the two views reads as: the identification and strap registers, the result code (Table 11-7),
the status registers (the engine's by Table 4-4), the setting registers and the monitor snapshot as the state of their
owners stands, a staging byte as stored, an unimplemented index as 0xFF. -/
def Obligations.RegistersShowTheirOwners : Prop :=
  ∀ s : State,
    s.readRegister 0x00#8 = 0xA6#8 ∧ s.readRegister 0x01#8 = 0x01#8
    ∧ s.readRegister 0x02#8 = (BitVec.ofBool s.straps.portsel ++ s.straps.bsize ++ s.straps.wsize ++ s.straps.bootspan
        ++ BitVec.ofBool s.straps.winpos)
    ∧ s.readRegister 0x03#8 = (if s.straps.parity then 1#8 else 0#8)
    ∧ s.readRegister 0x04#8 = s.rgw.lastCommand ∧ s.readRegister 0x05#8 = s.rgw.argument
    ∧ s.readRegister 0x06#8 = (match s.rgw.result with
        | .ok => 0#8 | .badIndex => 1#8 | .badField => 2#8 | .locked => 3#8 | .pinned => 4#8 | .queueFull => 5#8
        | .empty => 6#8 | .nothingActive => 7#8 | .unknownCommand => 8#8)
    ∧ s.readRegister 0x07#8 = s.rgw.resultArg
    ∧ s.readRegister 0x09#8 = BitVec.ofNat 8 s.txe.queue.length
    ∧ (∀ (state tag : Byte) (done : Nat),
        (match s.txe.engine with
          | .idle => state = 0#8 ∧ tag = 0#8 ∧ done = 0
          | .running a => state = 1#8 ∧ tag = a.job.tag ∧ done = a.linesDone
          | .draining a => state = 2#8 ∧ tag = a.job.tag ∧ done = a.linesDone
          | .retiring r => state = 3#8 ∧ tag = r.tag ∧ done = r.linesDone) →
        s.readRegister 0x08#8 = state ∧ s.readRegister 0x0A#8 = tag
        ∧ (done ≤ 8192 → (s.readRegister 0x0C#8).toNat * 256 + (s.readRegister 0x0B#8).toNat = done))
    ∧ s.readRegister 0x0D#8 = BitVec.ofNat 8 s.hbi.buffer.length
    ∧ s.readRegister 0x0E#8 = BitVec.ofNat 8 s.rpu.faults.length
    ∧ s.readRegister 0x0F#8 = BitVec.ofNat 8 s.rpu.completions.length
    ∧ s.readRegister 0x10#8 = (if s.rpu.overflow then 1#8 else 0#8) ∧ s.readRegister 0x11#8 = s.rpu.lost
    ∧ s.readRegister 0x12#8 = 0#4 ++ BitVec.ofBool (decide (s.txe.engine = .idle ∧ s.txe.queue = []))
        ++ BitVec.ofBool s.rpu.overflow ++ BitVec.ofBool (decide (s.rpu.faults ≠ []))
        ++ BitVec.ofBool (decide (s.rpu.completions ≠ []))
    ∧ s.readRegister 0x13#8 = (if s.rtu.lock then 1#8 else 0#8)
    ∧ s.readRegister 0x18#8 = (if s.hbi.postingEnable then 1#8 else 0#8) ∧ s.readRegister 0x19#8 = s.hbi.waitLimit
    ∧ s.readRegister 0x1A#8 = (if s.hbi.parityTermination then 1#8 else 0#8)
    ∧ s.readRegister 0x1B#8 = (if s.wsc.parityCheck then 1#8 else 0#8)
    ∧ s.readRegister 0x1C#8 = s.bsc.accessTime.setWidth 8 ∧ s.readRegister 0x1D#8 = s.rpu.mask.setWidth 8
    ∧ s.readRegister 0x1E#8 = s.wpa.guarantees.hostPath ∧ s.readRegister 0x1F#8 = s.wpa.guarantees.engine
    ∧ s.readRegister 0x20#8 = s.wpa.guarantees.aux ∧ s.readRegister 0x21#8 = s.wpa.idleWindows.hostPath
    ∧ s.readRegister 0x22#8 = s.wpa.idleWindows.engine ∧ s.readRegister 0x23#8 = s.wpa.idleWindows.aux
    ∧ (∀ (n : Counters) (at0 : Byte), (n, at0) ∈ [(s.wpa.snapshot.hostPath, 0xA0#8), (s.wpa.snapshot.engine, 0xA9#8),
          (s.wpa.snapshot.aux, 0xB2#8)] →
        s.readRegister (at0 + 1#8) ++ s.readRegister at0 = n.grants
        ∧ s.readRegister (at0 + 4#8) ++ s.readRegister (at0 + 3#8) ++ s.readRegister (at0 + 2#8) = n.waitUnits
        ∧ s.readRegister (at0 + 6#8) ++ s.readRegister (at0 + 5#8) = n.forfeits
        ∧ s.readRegister (at0 + 8#8) ++ s.readRegister (at0 + 7#8) = n.preemptions)
    ∧ (∀ i : Byte, indexClass i = .staging → s.readRegister i = s.rgw.staging.byte i)
    ∧ ∀ i : Byte, indexClass i = .unimplemented → s.readRegister i = 0xFF#8

/-- The fault view and the completion view present the oldest record of their queue at the offsets of Table 11-5, an
absent field as zero; with no record every byte of the view reads as zero. The codes of every field, in the views, the
staging records and the entries, are those of Table 11-2. -/
def Obligations.ViewsPresentOldestRecord : Prop :=
  ([Mode.pass, .boot, .copy, .shadow, .live, .closed].map Mode.code = [0#8, 1#8, 2#8, 3#8, 4#8, 5#8]
    ∧ [FaultAction.silent, .record, .recordAndError].map FaultAction.code = [0#8, 1#8, 2#8]
    ∧ [JobKind.copy, .verify, .fill].map JobKind.code = [1#8, 2#8, 3#8]
    ∧ [Scope.reads, .readsWrites].map Scope.code = [0#8, 1#8] ∧ [Space.memory, .io].map Space.code = [0#8, 1#8]
    ∧ [Qualifier.reads, .writes, .either].map Qualifier.code = [0#8, 1#8, 2#8]
    ∧ [Polarity.activeLow, .activeHigh].map Polarity.code = [0#8, 1#8]
    ∧ [FaultKind.discardedWrite, .closedAccess, .workParity, .verifyMismatch, .hostWaitTimeout, .auxRange,
        .auxUngranted].map FaultKind.code = [1#8, 2#8, 3#8, 4#8, 5#8, 6#8, 7#8]
    ∧ [Requester.hostPath, .engine, .aux].map Requester.code = [1#8, 2#8, 3#8]
    ∧ [Direction.read, .write].map directionCode = [1#8, 2#8]
    ∧ [Awaited.bootPort, .workPort, .postDrain, .postSlot].map Awaited.code = [1#8, 2#8, 3#8, 4#8]
    ∧ [JobOutcome.done, .failed, .aborted].map JobOutcome.code = [1#8, 2#8, 3#8]
    ∧ [Reason.none, .mismatchLimit, .lockedTarget, .abortCommand].map Reason.code = [0#8, 1#8, 2#8, 3#8]
    ∧ [ActionResult.noneRequested, .applied, .refusedLocked, .notApplied].map ActionResult.code
        = [1#8, 2#8, 3#8, 4#8])
  ∧ ∀ s : State,
    (s.rpu.faults = [] → ∀ k : Nat, k < 16 → s.readRegister (0x80#8 + BitVec.ofNat 8 k) = 0#8)
    ∧ (∀ r rest, s.rpu.faults = r :: rest →
        s.readRegister 0x80#8 = (0#1 ++ BitVec.ofBool r.awaited.isSome ++ BitVec.ofBool r.detail.isSome
            ++ BitVec.ofBool r.lanes.isSome ++ BitVec.ofBool r.tag.isSome ++ BitVec.ofBool r.block.isSome
            ++ BitVec.ofBool r.direction.isSome ++ 1#1)
        ∧ s.readRegister 0x81#8 = r.kind.code ∧ s.readRegister 0x82#8 = r.source.code
        ∧ (s.readRegister 0x86#8 ++ s.readRegister 0x85#8 ++ s.readRegister 0x84#8 ++ s.readRegister 0x83#8)
            = r.address
        ∧ s.readRegister 0x87#8 = (match r.direction with | some d => directionCode d | none => 0#8)
        ∧ s.readRegister 0x88#8 = (match r.block with | some b => BitVec.ofNat 8 b.val | none => 0#8)
        ∧ s.readRegister 0x89#8 = (match r.tag with | some x => x | none => 0#8)
        ∧ s.readRegister 0x8A#8 = (match r.lanes with | some l => l.setWidth 8 | none => 0#8)
        ∧ s.readRegister 0x8B#8 = (match r.detail with | some d => d.position.setWidth 8 | none => 0#8)
        ∧ s.readRegister 0x8C#8 = (match r.detail with | some d => d.bootByte | none => 0#8)
        ∧ s.readRegister 0x8D#8 = (match r.detail with | some d => d.workByte | none => 0#8)
        ∧ s.readRegister 0x8E#8 = (match r.awaited with | some w => w.code | none => 0#8)
        ∧ s.readRegister 0x8F#8 = r.repeats)
    ∧ (s.rpu.completions = [] → ∀ k : Nat, k < 14 → s.readRegister (0x90#8 + BitVec.ofNat 8 k) = 0#8)
    ∧ ∀ r rest, s.rpu.completions = r :: rest →
        s.readRegister 0x90#8 = 1#8 ∧ s.readRegister 0x91#8 = r.tag ∧ s.readRegister 0x92#8 = r.kind.code
        ∧ s.readRegister 0x93#8 = BitVec.ofNat 8 r.block.val ∧ s.readRegister 0x94#8 = r.outcome.code
        ∧ s.readRegister 0x95#8 = r.reason.code
        ∧ (s.readRegister 0x97#8 ++ s.readRegister 0x96#8) = BitVec.ofNat 16 r.linesDone
        ∧ (s.readRegister 0x99#8 ++ s.readRegister 0x98#8) = BitVec.ofNat 16 r.skipped
        ∧ (s.readRegister 0x9B#8 ++ s.readRegister 0x9A#8) = BitVec.ofNat 16 r.merged
        ∧ s.readRegister 0x9C#8 = BitVec.ofNat 8 r.mismatches ∧ s.readRegister 0x9D#8 = r.actionResult.code

/-! ### Commands of the register window -/

/-- SET_WINDOW and SET_AUX_WINDOW: LOCKED under the lock, BAD_FIELD where the staged window is not valid, otherwise both
values are replaced together. SET_PORTS: BAD_FIELD for a port base that is odd, below 0x100 or above 0xFFE, otherwise the
ports move; it does not check the lock. -/
def Obligations.SetCommandsCheckThenReplace : Prop :=
  ∀ (s : State) (c : IoCycle),
    (s.TakesCommand c 0x15#8 →
      let w := s.rgw.staging.window
      exec (.setWindow c) s = .next (s.windowWritten c
        (if s.rtu.lock then s.withResult 0x15#8 .locked 0#8
         else if w.base.toNat % 0x1000000 ≠ 0 ∨ (w.enable ≠ 0#8 ∧ w.enable ≠ 1#8) then s.withResult 0x15#8 .badField 0#8
         else { s with rtu := { s.rtu with windowBase := w.base, windowEnable := decide (w.enable = 1#8) } }.withResult
           0x15#8 .ok 0#8)))
    ∧ (s.TakesCommand c 0x23#8 →
      let w := s.rgw.staging.aux
      exec (.setAuxWindow c) s = .next (s.windowWritten c
        (if s.rtu.lock then s.withResult 0x23#8 .locked 0#8
         else if w.base.toNat % 0x1000 ≠ 0 ∨ w.limit.toNat % 0x1000 ≠ 0 ∨ w.limit.toNat < w.base.toNat
             ∨ 0x200000 * 2 ^ s.straps.wsize.toNat ≤ w.limit.toNat then s.withResult 0x23#8 .badField 0#8
         else { s with amp := { s.amp with windowBase := w.base, windowLimit := w.limit } }.withResult 0x23#8 .ok 0#8)))
    ∧ (s.TakesCommand c 0x61#8 →
      let p := s.rgw.staging.ports
      exec (.setPorts c) s = .next (s.windowWritten c
        (if p.toNat % 2 = 1 ∨ p.toNat < 0x100 ∨ 0xFFE < p.toNat then s.withResult 0x61#8 .badField 0#8
         else { s with rgw := { s.rgw with portBase := p } }.withResult 0x61#8 .ok 0#8)))

/-- COMMIT_ROUTE: BAD_INDEX, LOCKED, PINNED, BAD_FIELD in this order; otherwise the whole entry is replaced. -/
def Obligations.CommitRouteChecksThenReplaces : Prop :=
  ∀ (s : State) (c : IoCycle), s.TakesCommand c 0x11#8 →
    let n := s.rgw.argument.toNat
    let r := s.rgw.staging.route
    let fields := r.mode.toNat ≤ 5 ∧ r.faultAction.toNat ≤ 2
      ∧ r.bootBase.toNat % 0x40000 = 0 ∧ r.bootBase.toNat < 0x200000 * 2 ^ s.straps.bsize.toNat
      ∧ r.workBase.toNat % 0x40000 = 0 ∧ r.workBase.toNat < 0x200000 * 2 ^ s.straps.wsize.toNat
    (63 < n → exec (.commitRoute c) s = .next (s.windowWritten c (s.withResult 0x11#8 .badIndex 0#8)))
    ∧ ∀ h : n < 64,
        (s.rtu.lock = true → exec (.commitRoute c) s = .next (s.windowWritten c (s.withResult 0x11#8 .locked 0#8)))
        ∧ (s.rtu.lock = false → s.rtu.pin = some ⟨n, h⟩ →
            exec (.commitRoute c) s = .next (s.windowWritten c (s.withResult 0x11#8 .pinned 0#8)))
        ∧ (s.rtu.lock = false → s.rtu.pin ≠ some ⟨n, h⟩ → ¬ fields →
            exec (.commitRoute c) s = .next (s.windowWritten c (s.withResult 0x11#8 .badField 0#8)))
        ∧ (s.rtu.lock = false → s.rtu.pin ≠ some ⟨n, h⟩ → fields →
            ∃ e : RouteEntry, e.mode.code = r.mode ∧ e.faultAction.code = r.faultAction ∧ e.bootBase = r.bootBase
              ∧ e.workBase = r.workBase
              ∧ exec (.commitRoute c) s = .next (s.windowWritten c
                  ({ s with rtu := { s.rtu with routes := s.rtu.routes.set n e h } }.withResult 0x11#8 .ok 0#8)))

/-- LOAD_ROUTE, LOAD_OVERLAY and LOAD_SELECT: BAD_INDEX beyond their table, otherwise every field of the entry is copied
into the staging record, and nothing else changes. -/
def Obligations.LoadsCopyEntriesIntoStaging : Prop :=
  ∀ (s : State) (c : IoCycle),
    let n := s.rgw.argument.toNat
    (s.TakesCommand c 0x12#8 →
      (63 < n → exec (.loadRoute c) s = .next (s.windowWritten c (s.withResult 0x12#8 .badIndex 0#8)))
      ∧ ∀ h : n < 64, exec (.loadRoute c) s = .next (s.windowWritten c
          ({ s with rgw := { s.rgw with staging := { s.rgw.staging with
              route := { mode := s.rtu.routes[n].mode.code, bootBase := s.rtu.routes[n].bootBase
                         workBase := s.rtu.routes[n].workBase, faultAction := s.rtu.routes[n].faultAction.code } } }
            }.withResult 0x12#8 .ok 0#8)))
    ∧ (s.TakesCommand c 0x14#8 →
      (15 < n → exec (.loadOverlay c) s = .next (s.windowWritten c (s.withResult 0x14#8 .badIndex 0#8)))
      ∧ ∀ h : n < 16, exec (.loadOverlay c) s = .next (s.windowWritten c
          ({ s with rgw := { s.rgw with staging := { s.rgw.staging with
              overlay := { enabled := if s.rtu.overlays[n].enabled then 1#8 else 0#8
                           hostPage := s.rtu.overlays[n].hostPage.setWidth 16, workPage := s.rtu.overlays[n].workPage
                           scope := s.rtu.overlays[n].scope.code, hits := s.rtu.overlays[n].hits } } }
            }.withResult 0x14#8 .ok 0#8)))
    ∧ (s.TakesCommand c 0x22#8 →
      (3 < n → exec (.loadSelect c) s = .next (s.windowWritten c (s.withResult 0x22#8 .badIndex 0#8)))
      ∧ ∀ h : n < 4, exec (.loadSelect c) s = .next (s.windowWritten c
          ({ s with rgw := { s.rgw with staging := { s.rgw.staging with
              select := { enabled := if s.sdc.records[n].enabled then 1#8 else 0#8
                          space := s.sdc.records[n].space.code, sizeCode := s.sdc.records[n].sizeCode
                          base := s.sdc.records[n].base, qualifier := s.sdc.records[n].qualifier.code
                          polarity := s.sdc.records[n].polarity.code
                          unclaimedOnly := if s.sdc.records[n].unclaimedOnly then 1#8 else 0#8 } } }
            }.withResult 0x22#8 .ok 0#8)))

/-- COMMIT_OVERLAY: BAD_INDEX, LOCKED, BAD_FIELD in this order; otherwise the entry takes the four staged fields with a
hit count of 0. -/
def Obligations.CommitOverlayChecksThenReplaces : Prop :=
  ∀ (s : State) (c : IoCycle), s.TakesCommand c 0x13#8 →
    let n := s.rgw.argument.toNat
    let r := s.rgw.staging.overlay
    let fields := r.enabled.toNat ≤ 1 ∧ r.scope.toNat ≤ 1 ∧ r.hostPage.toNat ≤ 4095
      ∧ r.workPage.toNat % 0x1000 = 0 ∧ r.workPage.toNat < 0x200000 * 2 ^ s.straps.wsize.toNat
    (15 < n → exec (.commitOverlay c) s = .next (s.windowWritten c (s.withResult 0x13#8 .badIndex 0#8)))
    ∧ ∀ h : n < 16,
        (s.rtu.lock = true → exec (.commitOverlay c) s = .next (s.windowWritten c (s.withResult 0x13#8 .locked 0#8)))
        ∧ (s.rtu.lock = false → ¬ fields →
            exec (.commitOverlay c) s = .next (s.windowWritten c (s.withResult 0x13#8 .badField 0#8)))
        ∧ (s.rtu.lock = false → fields →
            ∃ e : OverlayEntry, (if e.enabled then 1#8 else 0#8) = r.enabled ∧ e.scope.code = r.scope
              ∧ e.hostPage.toNat = r.hostPage.toNat ∧ e.workPage = r.workPage ∧ e.hits = 0#16
              ∧ exec (.commitOverlay c) s = .next (s.windowWritten c
                  ({ s with rtu := { s.rtu with overlays := s.rtu.overlays.set n e h } }.withResult 0x13#8 .ok 0#8)))

/-- COMMIT_SELECT: BAD_INDEX, BAD_FIELD in this order, whatever the lock holds; otherwise the record takes the seven
staged fields. -/
def Obligations.CommitSelectChecksThenReplaces : Prop :=
  ∀ (s : State) (c : IoCycle), s.TakesCommand c 0x21#8 →
    let n := s.rgw.argument.toNat
    let r := s.rgw.staging.select
    let fields := r.enabled.toNat ≤ 1 ∧ r.space.toNat ≤ 1 ∧ r.qualifier.toNat ≤ 2 ∧ r.polarity.toNat ≤ 1
      ∧ r.unclaimedOnly.toNat ≤ 1 ∧ 4 ≤ r.sizeCode.toNat
      ∧ r.sizeCode.toNat ≤ (if r.space = 0#8 then 24 else 12)
      ∧ r.base.toNat % 2 ^ r.sizeCode.toNat = 0 ∧ (r.space = 1#8 → r.base.toNat < 0x10000)
    (3 < n → exec (.commitSelect c) s = .next (s.windowWritten c (s.withResult 0x21#8 .badIndex 0#8)))
    ∧ ∀ h : n < 4,
        (¬ fields → exec (.commitSelect c) s = .next (s.windowWritten c (s.withResult 0x21#8 .badField 0#8)))
        ∧ (fields →
            ∃ e : SelectRecord, (if e.enabled then 1#8 else 0#8) = r.enabled ∧ e.space.code = r.space
              ∧ e.sizeCode = r.sizeCode ∧ e.base = r.base ∧ e.qualifier.code = r.qualifier
              ∧ e.polarity.code = r.polarity ∧ (if e.unclaimedOnly then 1#8 else 0#8) = r.unclaimedOnly
              ∧ exec (.commitSelect c) s = .next (s.windowWritten c
                  ({ s with sdc := { s.sdc with records := s.sdc.records.set n e h } }.withResult 0x21#8 .ok 0#8)))

/-- SUBMIT_JOB: QUEUE_FULL with 8 jobs waiting, then BAD_FIELD for a staged field that fails its check, otherwise a copy
of the staged job is appended at the tail. -/
def Obligations.SubmitJobChecksThenAppends : Prop :=
  ∀ (s : State) (c : IoCycle), s.TakesCommand c 0x31#8 →
    let r := s.rgw.staging.job
    let fields := (1 ≤ r.kind.toNat ∧ r.kind.toNat ≤ 3) ∧ r.block.toNat ≤ 63 ∧ r.firstLine.toNat ≤ 8191
      ∧ (1 ≤ r.lineCount.toNat ∧ r.lineCount.toNat ≤ 8192) ∧ r.firstLine.toNat + r.lineCount.toNat ≤ 8192
      ∧ r.action.toNat ≤ 6 ∧ (r.kind = 2#8 → 1 ≤ r.limit.toNat)
    (8 ≤ s.txe.queue.length →
        exec (.submitJob c) s = .next (s.windowWritten c (s.withResult 0x31#8 .queueFull 0#8)))
    ∧ (s.txe.queue.length < 8 → ¬ fields →
        exec (.submitJob c) s = .next (s.windowWritten c (s.withResult 0x31#8 .badField 0#8)))
    ∧ (s.txe.queue.length < 8 → fields →
        ∃ j : Job, j.tag = r.tag ∧ j.kind.code = r.kind ∧ j.block.val = r.block.toNat
          ∧ j.firstLine = r.firstLine.toNat ∧ j.lineCount = r.lineCount.toNat ∧ j.pattern = r.pattern
          ∧ j.limit = r.limit ∧ (match j.action with | none => 0#8 | some m => m.code + 1#8) = r.action
          ∧ exec (.submitJob c) s = .next (s.windowWritten c
              ({ s with txe := { s.txe with queue := s.txe.queue ++ [j] } }.withResult 0x31#8 .ok 0#8)))

/-- ABORT_ACTIVE: RUNNING becomes DRAINING, DRAINING stays, and with no active job the answer is NOTHING_ACTIVE.
FLUSH_QUEUED empties the Job Queue and answers OK with the number of jobs removed. Nothing else changes. -/
def Obligations.AbortStartsDrainingAndFlushEmptiesQueue : Prop :=
  ∀ (s : State) (c : IoCycle),
    (s.TakesCommand c 0x32#8 → exec (.abortActive c) s = .next (s.windowWritten c
      (match s.txe.engine with
       | .running a => { s with txe := { s.txe with engine := .draining a } }.withResult 0x32#8 .ok 0#8
       | .draining _ => s.withResult 0x32#8 .ok 0#8
       | .idle => s.withResult 0x32#8 .nothingActive 0#8
       | .retiring _ => s.withResult 0x32#8 .nothingActive 0#8)))
    ∧ (s.TakesCommand c 0x33#8 → exec (.flushQueued c) s = .next (s.windowWritten c
        ({ s with txe := { s.txe with queue := [] } }.withResult 0x33#8 .ok (BitVec.ofNat 8 s.txe.queue.length))))

/-- ENGINE_RESET empties the engine, releases the pin, disarms the map, withdraws the engine's pending Boot request and
leaves its accesses in progress to complete without a job; the arbiter then answers the withdrawal of ENGINE's want. -/
def Obligations.EngineResetDiscardsWork : Prop :=
  ∀ (s : State) (c : IoCycle), s.TakesCommand c 0x3E#8 →
    let u : State := { s with
      txe := { queue := [], engine := .idle, map := none }
      rtu := { s.rtu with pin := none }
      bsc := { s.bsc with
        engineRequest := none
        accessor := s.bsc.accessor.map fun b => if b.user = .engine then { b with dropped := true } else b }
      wsc := { s.wsc with access := match s.wsc.access with
        | some (.lineWrite off d m _) => some (.lineWrite off d m true)
        | some (.lineRead off check _) => some (.lineRead off check true)
        | other => other } }
    exec (.engineReset c) s = .next (s.windowWritten c (u.settle.withResult 0x3E#8 .ok 0#8))

/-- MONITOR_START and MONITOR_STOP set and clear counting; SNAPSHOT_MONITOR moves the twelve live counters into the
snapshot registers and zeroes them. -/
def Obligations.MonitorCommandsCountAndSnapshot : Prop :=
  ∀ (s : State) (c : IoCycle),
    (s.TakesCommand c 0x51#8 → exec (.monitorStart c) s = .next (s.windowWritten c
        ({ s with wpa := { s.wpa with counting := true } }.withResult 0x51#8 .ok 0#8)))
    ∧ (s.TakesCommand c 0x52#8 → exec (.monitorStop c) s = .next (s.windowWritten c
        ({ s with wpa := { s.wpa with counting := false } }.withResult 0x52#8 .ok 0#8)))
    ∧ (s.TakesCommand c 0x53#8 →
        let zero : Counters := { grants := 0#16, waitUnits := 0#24, forfeits := 0#16, preemptions := 0#16 }
        exec (.snapshotMonitor c) s = .next (s.windowWritten c
          ({ s with wpa := { s.wpa with snapshot := s.wpa.live, live := { hostPath := zero, engine := zero, aux := zero }
            } }.withResult 0x53#8 .ok 0#8)))

/-- POP_FAULT removes the oldest fault record, or answers EMPTY; it leaves the overflow flag and the lost-fault count.
CLEAR_OVERFLOW clears those two and leaves the Fault Queue. -/
def Obligations.FaultCommandsPopAndClear : Prop :=
  ∀ (s : State) (c : IoCycle),
    (s.TakesCommand c 0x41#8 → exec (.popFault c) s = .next (s.windowWritten c
        (match s.rpu.faults with
         | [] => s.withResult 0x41#8 .empty 0#8
         | _ :: rest => { s with rpu := { s.rpu with faults := rest } }.withResult 0x41#8 .ok 0#8)))
    ∧ (s.TakesCommand c 0x43#8 → exec (.clearOverflow c) s = .next (s.windowWritten c
        ({ s with rpu := { s.rpu with overflow := false, lost := 0#8 } }.withResult 0x43#8 .ok 0#8)))

/-- POP_COMPLETION removes the oldest completion record, or answers EMPTY; with the engine RETIRING its held record is
appended in the same event and the engine enters IDLE. -/
def Obligations.PopCompletionPullsHeldRecord : Prop :=
  ∀ (s : State) (c : IoCycle), s.TakesCommand c 0x42#8 →
    exec (.popCompletion c) s = .next (s.windowWritten c
      (match s.rpu.completions, s.txe.engine with
       | [], _ => s.withResult 0x42#8 .empty 0#8
       | _ :: rest, .retiring r =>
         { s with rpu := { s.rpu with completions := rest ++ [r] }, txe := { s.txe with engine := .idle } }.withResult
           0x42#8 .ok 0#8
       | _ :: rest, _ => { s with rpu := { s.rpu with completions := rest } }.withResult 0x42#8 .ok 0#8))

/-- A code Table 11-6 does not assign is stored as the last command code with the result UNKNOWN_COMMAND, and nothing
else changes. -/
def Obligations.UnknownCommandReachesNothing : Prop :=
  ∀ (s : State) (c : IoCycle) (code : Byte), s.TakesCommand c code →
    code ∉ [0x11#8, 0x12#8, 0x13#8, 0x14#8, 0x15#8, 0x1C#8, 0x21#8, 0x22#8, 0x23#8, 0x31#8, 0x32#8, 0x33#8, 0x3E#8,
      0x41#8, 0x42#8, 0x43#8, 0x51#8, 0x52#8, 0x53#8, 0x61#8] →
    exec (.unknownCommand c) s = .next (s.windowWritten c (s.withResult code .unknownCommand 0#8))
      ∧ (s.windowWritten c (s.withResult code .unknownCommand 0#8)).readRegister 0x04#8 = code

/-! ### Routes and host cycles -/

/-- The route of a host memory cycle: outside the window not claimed; CLOSED before any overlay; then the lowest-numbered
enabled overlay entry that names the page, for reads and under READS_WRITES for writes; otherwise the mode's column. -/
def Obligations.RouteResolutionOrder : Prop :=
  ∀ (r : Rtu) (addr : HostAddr) (dir : Direction),
    let inside := r.windowEnable = true ∧ r.windowBase.toNat ≤ addr.toNat
      ∧ addr.toNat < r.windowBase.toNat + 0x1000000
    let rel := addr.toNat - r.windowBase.toNat
    let b : Fin 64 := Fin.ofNat 64 (rel / 0x40000)
    let off : Offset := BitVec.ofNat 24 (rel % 0x40000)
    let e := r.routes[b]
    let names (i : Fin 16) : Prop := r.overlays[i].enabled = true ∧ r.overlays[i].hostPage.toNat = rel / 0x1000
    let column (d : Direction) : Route :=
      match e.mode, d with
      | .pass, _ => .notClaimed
      | .boot, .read | .copy, .read => .bootRead (e.bootBase + off) b
      | .shadow, .read | .live, .read => .workRead (e.workBase + off) b none
      | .copy, .write | .live, .write => .workWrite (e.workBase + off) b none
      | .boot, .write | .shadow, .write => .discard b e.faultAction
      | .closed, _ => .closed b e.faultAction
    (¬ inside → r.resolve addr dir = .notClaimed)
    ∧ (inside → e.mode = .closed → r.resolve addr dir = .closed b e.faultAction)
    ∧ (inside → (∀ i, ¬ names i) → r.resolve addr dir = column dir)
    ∧ ∀ i : Fin 16, inside → e.mode ≠ .closed → names i → (∀ j : Fin 16, j < i → ¬ names j) →
        let page := r.overlays[i].workPage + BitVec.ofNat 24 (rel % 0x1000)
        r.resolve addr .read = .workRead page b (some i)
        ∧ (r.overlays[i].scope = .readsWrites → r.resolve addr .write = .workWrite page b (some i))
        ∧ (r.overlays[i].scope = .reads → r.resolve addr .write = column .write)

/-- A host cycle the part does not claim is noted, decides the select lines and changes nothing else; its end clears the
note and returns the select lines. While RESET is asserted every host cycle passes so, with the lines at rest. An end on
a free bus is the model's choice (log entry 14). The select decision: a cycle makes line k active exactly where record k
is enabled and the space, the address, the direction and the claim of the cycle match it; the polarity gives the active
and the inactive level, and between cycles every line is inactive. -/
def Obligations.UnclaimedCyclesPassAndSelectsAreDecided : Prop :=
  (∀ (d : Sdc) (space : Space) (addr : HostAddr) (dir : Direction) (claimed : Bool) (k : Fin 4),
      let r := d.records[k]
      let fires := r.enabled = true ∧ r.space = space
        ∧ r.base.toNat ≤ addr.toNat ∧ addr.toNat < r.base.toNat + 2 ^ r.sizeCode.toNat
        ∧ (r.qualifier = .either ∨ (r.qualifier = .reads ∧ dir = .read) ∨ (r.qualifier = .writes ∧ dir = .write))
        ∧ (r.unclaimedOnly = true → claimed = false)
      (fires → (d.cycleLevels space addr dir claimed).getLsbD k.val = decide (r.polarity = .activeHigh))
        ∧ (¬ fires → (d.cycleLevels space addr dir claimed).getLsbD k.val = decide (r.polarity = .activeLow))
        ∧ d.idleLevels.getLsbD k.val = decide (r.polarity = .activeLow))
    ∧ (∀ s : State, s.restLevels = if s.inReset then 0xF#4 else s.sdc.idleLevels) ∧
  (∀ (s : State) (c : MemoryCycle), s.busFree = true → c.lanes ≠ 0#4 → s.inReset = false →
      s.rtu.resolve (wordAddr c.ha) c.dir = .notClaimed →
      exec (.hostMemoryCycleArrival c) s = .next (State.drive { s with
        hbi := { s.hbi with unclaimed := true }, pins := s.openPins .memory (wordAddr c.ha) c.dir false }))
    ∧ (∀ s : State, s.hbi.cycle = none →
      exec .unclaimedCycleEnd s = .next (State.drive { s with
        hbi := { s.hbi with unclaimed := false }, pins := { s.pins with sel := s.restLevels } }))
    ∧ (∀ (s : State) (c : MemoryCycle), s.busFree = true → c.lanes ≠ 0#4 → s.inReset = true →
      exec (.hostMemoryCycleArrival c) s = .next (State.drive { s with
        hbi := { s.hbi with unclaimed := true }, pins := { s.pins with answer := none } }))
    ∧ ∀ (s : State) (dir : Direction) (c : IoCycle), s.busFree = true → c.lanes ≠ 0#4 → s.inReset = true →
      exec (.unclaimedIoCycle dir c) s = .next (State.drive { s with
        hbi := { s.hbi with unclaimed := true }, pins := { s.pins with answer := none } })

/-- A DISCARD or CLOSED cycle ends in its arrival event: a closed read with every lane 0xFF, with a fault record unless
the fault action is SILENT, and with bus error under RECORD_AND_ERROR. Nothing but the Fault Queue and the outputs
changes. -/
def Obligations.RefusedCyclesEndAtArrival : Prop :=
  ∀ (s : State) (c : MemoryCycle) (b : Fin 64) (fa : FaultAction),
    s.busFree = true → c.lanes ≠ 0#4 → s.inReset = false →
    let addr := wordAddr c.ha
    let fault (k : FaultKind) : FaultRecord :=
      { kind := k, source := .hostPath, address := addr, direction := some c.dir, block := some b, tag := none
        lanes := none, detail := none, awaited := none, repeats := 1#8 }
    let ended (k : FaultKind) (data : Option LaneData) : State := State.drive { s with
      hbi := { s.hbi with cycle := none, timerRunning := false }
      rpu := if fa = .silent then s.rpu else s.rpu.takeFault (fault k)
      pins := s.endedPins .memory addr c.dir { busError := decide (fa = .recordAndError), data := data } }
    (s.rtu.resolve addr c.dir = .discard b fa →
        exec (.hostMemoryCycleArrival c) s = .next (ended .discardedWrite none))
    ∧ (s.rtu.resolve addr c.dir = .closed b fa →
        exec (.hostMemoryCycleArrival c) s = .next (ended .closedAccess
          (if c.dir = .read then some (Vector.ofFn fun _ => some 0xFF#8) else none)))

/-- A BOOT_READ starts its access at arrival where the Boot Store Controller has none in progress, without a timer;
otherwise it waits in AWAIT_BOOT, with the timer running under a limit. The cycle held is the one that arrived, with its
word address, lanes and route; that a read holds data 0 is the model's choice (log entry 15). -/
def Obligations.BootReadArrivalStartsOrWaits : Prop :=
  ∀ (s : State) (c : MemoryCycle) (off : Offset) (b : Fin 64),
    s.busFree = true → c.lanes ≠ 0#4 → s.inReset = false →
    s.rtu.resolve (wordAddr c.ha) c.dir = .bootRead off b →
    let cyc (st : HostStage) : HostCycle :=
      { addr := c.ha ++ 0#2, dir := c.dir, lanes := c.lanes, data := 0#32, offset := off, block := b, overlay := none
        stage := st }
    let pins := s.openPins .memory (wordAddr c.ha) c.dir true
    (s.bsc.accessor = none → exec (.hostMemoryCycleArrival c) s = .next (State.drive { s with
        hbi := { s.hbi with cycle := some (cyc .bootAccess), timerRunning := false }
        bsc := { s.bsc with
          accessor := some { user := .hostPath, offset := off, dropped := false
                             durationNs := 50 * (s.bsc.accessTime.toNat + 1) }
          hostRequest := none }
        pins := pins }))
    ∧ (s.bsc.accessor ≠ none → exec (.hostMemoryCycleArrival c) s = .next (State.drive { s with
        hbi := { s.hbi with cycle := some (cyc .awaitBoot), timerRunning := decide (s.hbi.waitLimit ≠ 0#8) }
        bsc := { s.bsc with hostRequest := some off }
        pins := pins }))

/-- A Work Store write with posting enabled is posted and ends ready where a slot is free, marking the map; otherwise it
waits in AWAIT_SLOT. A Work Store read, or a write with posting disabled, waits for the buffer or for the port. The
arbiter then settles the port. The entry and the held write keep the data of the carried lanes; that the other lanes, and
a held read, hold 0 is the model's choice (log entry 15). -/
def Obligations.WorkCycleArrivalPostsOrWaits : Prop :=
  ∀ (s : State) (c : MemoryCycle) (off : Offset) (b : Fin 64) (ov : Option (Fin 16)),
    s.busFree = true → c.lanes ≠ 0#4 → s.inReset = false →
    ∃ kept : Word,
    (∀ k : Nat, k < 4 →
      (kept >>> (8 * k)).setWidth 8 = if carries c.lanes k then (c.data >>> (8 * k)).setWidth 8 else 0#8) ∧
    let addr := wordAddr c.ha
    let entry : PostEntry := { offset := off, lanes := c.lanes, data := kept }
    let held (st : HostStage) : HostCycle :=
      { addr := c.ha ++ 0#2, dir := c.dir, lanes := c.lanes, data := if c.dir = .write then kept else 0#32
        offset := off, block := b, overlay := ov, stage := st }
    let waiting (st : HostStage) : State := { s with
      hbi := { s.hbi with cycle := some (held st), timerRunning := decide (s.hbi.waitLimit ≠ 0#8) }
      pins := s.openPins .memory addr c.dir true }
    let behind : HostStage := if s.hbi.buffer = [] then .awaitWork else .awaitDrain
    (c.dir = .write → s.rtu.resolve addr c.dir = .workWrite off b ov → s.hbi.postingEnable = true →
      s.hbi.buffer.length < 4 →
        exec (.hostMemoryCycleArrival c) s = .next (State.drive (State.settle { s with
          hbi := { s.hbi with buffer := s.hbi.buffer ++ [entry], cycle := none, timerRunning := false }
          txe := { s.txe with map := s.txe.map.map fun m => m.mark off c.lanes }
          pins := s.endedPins .memory addr c.dir HostAnswer.readyWrite })))
    ∧ (s.rtu.resolve addr c.dir = .workWrite off b ov → s.hbi.postingEnable = true → 4 ≤ s.hbi.buffer.length →
        exec (.hostMemoryCycleArrival c) s = .next (State.drive (State.settle (waiting .awaitSlot))))
    ∧ (s.rtu.resolve addr c.dir = .workWrite off b ov → s.hbi.postingEnable = false →
        exec (.hostMemoryCycleArrival c) s = .next (State.drive (State.settle (waiting behind))))
    ∧ (s.rtu.resolve addr c.dir = .workRead off b ov →
        exec (.hostMemoryCycleArrival c) s = .next (State.drive (State.settle (waiting behind))))

/-- HOST_WAIT_TIMEOUT ends the waiting cycle with bus error, a read with 0xFF on every carried lane, hands over a
HOST_WAIT_TIMEOUT record with what the cycle awaited, and withdraws its request; no byte is written and nothing is
posted. Lanes that are not carried have no value: the model's choice (log entry 11). -/
def Obligations.HostWaitTimeoutEndsCycle : Prop :=
  ∀ (s : State) (c : HostCycle) (w : Awaited), s.hbi.cycle = some c → s.hbi.timerRunning = true →
    (c.stage, w) ∈ [(.awaitBoot, .bootPort), (.awaitDrain, .postDrain), (.awaitWork, .workPort), (.awaitSlot, .postSlot)] →
    let lanes : LaneData := Vector.ofFn fun k => if carries c.lanes k.val then some 0xFF#8 else none
    exec .hostWaitTimeout s = .next (State.drive (State.settle { s with
      hbi := { s.hbi with cycle := none, timerRunning := false }
      bsc := { s.bsc with hostRequest := none }
      rpu := s.rpu.takeFault
        { kind := .hostWaitTimeout, source := .hostPath, address := c.addr, direction := some c.dir
          block := some c.block, tag := none, lanes := none, detail := none, awaited := some w, repeats := 1#8 }
      pins := s.answeredPins { busError := true, data := if c.dir = .read then some lanes else none } }))

/-- The completion of a Boot Store access: a host read ends ready with the Boot Store's bytes; an engine read gives its
line the 32 bytes and passes it to AWAIT_WORK, or, dropped, gives nothing; and the Boot Store Controller starts a
pending host request, otherwise a pending engine request, otherwise it is free. Lanes that are not carried have no
value: the model's choice (log entry 11). -/
def Obligations.BootReadsCompleteAndPassPort : Prop :=
  (∀ (s : State) (b : BootAccess) (c : HostCycle),
      s.bsc.accessor = some b → b.user = .hostPath → s.hbi.cycle = some c →
      let data : LaneData := Vector.ofFn fun k =>
        if carries c.lanes k.val then some (Memory.read s.boot (b.offset.toNat + k.val)) else none
      exec .hostBootReadComplete s = .next (State.drive (State.bootNext { s with
        hbi := { s.hbi with cycle := none, timerRunning := false }
        pins := s.answeredPins { busError := false, data := some data } })))
    ∧ (∀ (s : State) (b : BootAccess), s.bsc.accessor = some b → b.user = .engine → b.dropped = true →
        exec .engineBootReadComplete s = .next s.bootNext.settle.drive)
    ∧ (∀ (s : State) (b : BootAccess) (a : ActiveJob), s.bsc.accessor = some b → b.user = .engine → b.dropped = false →
        s.txe.engine.active = some a →
        let line : Line := Vector.ofFn fun k => Memory.read s.boot (b.offset.toNat + k.val)
        let held (a : ActiveJob) : ActiveJob := { a with stage := .awaitWork line }
        let e : EngineState := match s.txe.engine with
          | .running a => .running (held a)
          | .draining a => .draining (held a)
          | other => other
        exec .engineBootReadComplete s
          = .next (State.drive (State.settle (State.bootNext { s with txe := { s.txe with engine := e } }))))
    ∧ ∀ (s : State) (b : BootAccess), s.bsc.accessor = some b →
        (∀ off c, s.bsc.hostRequest = some off → s.hbi.cycle = some c →
          s.bootNext = { s with
            bsc := { s.bsc with
              hostRequest := none
              accessor := some { user := .hostPath, offset := off, dropped := false
                                 durationNs := 50 * (s.bsc.accessTime.toNat + 1) } }
            hbi := { s.hbi with cycle := some { c with stage := .bootAccess }, timerRunning := false } })
        ∧ (∀ (off : Offset) (a : ActiveJob) (phase : ActiveJob → EngineState), (phase = .running ∨ phase = .draining) →
          s.bsc.hostRequest = none → s.bsc.engineRequest = some off → s.txe.engine = phase a →
          s.bootNext = { s with
            bsc := { s.bsc with
              engineRequest := none
              accessor := some { user := .engine, offset := off, dropped := false
                                 durationNs := 400 * (s.bsc.accessTime.toNat + 1) } }
            txe := { s.txe with engine := phase { a with stage := .bootRead } } })
        ∧ (s.bsc.hostRequest = none → s.bsc.engineRequest = none →
          s.bootNext = { s with bsc := { s.bsc with accessor := none } })

/-- The completion of a host's Work Store read: it ends with the Work Store's bytes on the carried lanes; with the check
on, carried lanes that disagree with their parity are reported and, under parity termination, end it with bus error;
the hit count of the overlay entry the route names advances by one and stays at 65535. Lanes that are not carried have
no value: the model's choice (log entry 11). -/
def Obligations.HostWorkReadReturnsStoreBytes : Prop :=
  ∀ (s : State) (c : HostCycle) (check : Bool) (bad : Lanes),
    s.wsc.access = some (.hostRead check) → s.hbi.cycle = some c →
    (∀ k : Nat, k < 4 → (bad.getLsbD k = true ↔ check = true ∧ carries c.lanes k = true
      ∧ ¬ OddParity (Memory.read s.work (c.offset.toNat + k)) (ParityBits.read s.workParity (c.offset.toNat + k)))) →
    let data : LaneData := Vector.ofFn fun k =>
      if carries c.lanes k.val then some (Memory.read s.work (c.offset.toNat + k.val)) else none
    let fault : FaultRecord :=
      { kind := .workParity, source := .hostPath, address := c.addr, direction := some .read, block := some c.block
        tag := none, lanes := some bad, detail := none, awaited := none, repeats := 1#8 }
    let hit (o : OverlayEntry) : OverlayEntry := { o with hits := if o.hits = 65535#16 then 65535#16 else o.hits + 1#16 }
    exec .hostWorkReadComplete s = .next (State.drive (State.settle { s with
      wsc := { s.wsc with access := none }
      rtu := { s.rtu with overlays := match c.overlay with
        | some i => s.rtu.overlays.set i (hit s.rtu.overlays[i])
        | none => s.rtu.overlays }
      rpu := if bad = 0#4 then s.rpu else s.rpu.takeFault fault
      hbi := { s.hbi with cycle := none, timerRunning := false }
      pins := s.answeredPins { busError := decide (bad ≠ 0#4) && s.hbi.parityTermination, data := some data } }))

/-- The completion of an unposted host write: its carried lanes are written at the route's Work offset, with fresh
parity, and mark the map; the cycle ends ready. -/
def Obligations.UnpostedWriteWritesItsLanes : Prop :=
  ∀ (s : State) (c : HostCycle), s.StoresCanonical → s.wsc.access = some .hostWrite → s.hbi.cycle = some c →
    let v : State := { s with
      wsc := { s.wsc with access := none }
      txe := { s.txe with map := s.txe.map.map fun m => m.mark c.offset c.lanes }
      hbi := { s.hbi with cycle := none, timerRunning := false }
      pins := s.answeredPins HostAnswer.readyWrite }
    ∃ u : State, ButWork v u ∧ WorkWritten c.offset.toNat 4 (carries c.lanes) (getByte c.data) s u
      ∧ exec .unpostedWriteComplete s = .next u.settle.drive

/-- The completion of a drain: the oldest entry's lanes are written at its Work offset, with fresh parity, and the entry
leaves the buffer; a write in AWAIT_SLOT is posted and ends ready, and a cycle in AWAIT_DRAIN passes on when the buffer
is empty. -/
def Obligations.DrainWritesOldestEntry : Prop :=
  ∀ (s : State) (e : PostEntry) (rest : List PostEntry), s.StoresCanonical → s.wsc.access = some .drain →
    s.hbi.buffer = e :: rest →
    let left : State := { s with wsc := { s.wsc with access := none }, hbi := { s.hbi with buffer := rest } }
    let v : State := match s.hbi.cycle with
      | some c =>
        if c.stage = .awaitSlot then
          { left with
            hbi := { s.hbi with
              buffer := rest ++ [{ offset := c.offset, lanes := c.lanes, data := c.data }]
              cycle := none, timerRunning := false }
            txe := { s.txe with map := s.txe.map.map fun m => m.mark c.offset c.lanes }
            pins := s.answeredPins HostAnswer.readyWrite }
        else if c.stage = .awaitDrain ∧ rest = [] then
          { left with hbi := { s.hbi with buffer := rest, cycle := some { c with stage := .awaitWork } } }
        else left
      | none => left
    ∃ u : State, ButWork v u ∧ WorkWritten e.offset.toNat 4 (carries e.lanes) (getByte e.data) s u
      ∧ exec .drainComplete s = .next u.settle.drive

/-! ### The Transfer Engine and the Written-Byte Map -/

/-- ACTIVATION removes the head job and snapshots its block's bases. A COPY or FILL job of a SHADOW block under the lock
ends FAILED, LOCKED_TARGET, in the same event. Otherwise the block is pinned, the map of a COPY or FILL is armed over the
Work range and marked by every posted entry, and the first line begins. -/
def Obligations.ActivationPinsArmsAndBegins : Prop :=
  ∀ (s : State) (j : Job) (rest : List Job), s.txe.engine = .idle → s.txe.queue = j :: rest →
    let e := s.rtu.routes[j.block]
    let a : ActiveJob :=
      { job := j, bootSnapshot := e.bootBase, workSnapshot := e.workBase, nextLine := j.firstLine, stage := .awaitBoot
        linesDone := 0, skipped := 0, merged := 0, mismatches := 0 }
    let refused := j.kind ≠ .verify ∧ s.rtu.lock = true ∧ e.mode = .shadow
    let armed : ByteMap :=
      { start := e.workBase + BitVec.ofNat 24 (j.firstLine * 32), lines := j.lineCount, masks := [] }
    (refused → exec .activation s = .next (State.drive (State.offer
        { tag := j.tag, kind := j.kind, block := j.block, outcome := .failed, reason := .lockedTarget, linesDone := 0
          skipped := 0, merged := 0, mismatches := 0
          actionResult := if j.action = none then .noneRequested else .notApplied }
        { s with txe := { s.txe with queue := rest } })))
    ∧ (¬ refused → exec .activation s = .next (State.drive (State.settle (State.beginLine a { s with
        txe := { s.txe with
          queue := rest
          map := if j.kind = .verify then s.txe.map
                 else some (s.hbi.buffer.foldl (fun m x => m.mark x.offset x.lanes) armed) }
        rtu := { s.rtu with pin := some j.block } }))))

/-- A write marks the Written-Byte Map at the byte positions of its lanes in its line, when its offset lies in the range,
and at no other position; the range stays. -/
def Obligations.MarkAddsWrittenPositions : Prop :=
  ∀ (m : ByteMap) (off : Offset) (lanes : Lanes) (line pos : Nat), LineMasks.wf m.masks = true → pos < 32 →
    ((m.mark off lanes).start = m.start ∧ (m.mark off lanes).lines = m.lines)
    ∧ ((LineMasks.read (m.mark off lanes).masks line).getLsbD pos = true ↔
        (LineMasks.read m.masks line).getLsbD pos = true
          ∨ (m.start.toNat ≤ off.toNat ∧ off.toNat < m.start.toNat + m.lines * 32
              ∧ line = (off.toNat - m.start.toNat) / 32
              ∧ ∃ k : Nat, k < 4 ∧ carries lanes k = true ∧ pos = off.toNat % 32 + k))

/-- A line in AWAIT_WORK that ENGINE serves, while RUNNING or DRAINING. A COPY or FILL line takes its mask once: all 32
bytes marked, it is skipped without an access; otherwise a write of its line starts that carries the mask. A VERIFY line
starts a read that carries the parity-check enable as it stands. The completion of a line write writes exactly the
unmarked bytes, with odd parity, and the line completes as merged or plain; a dropped write writes them and counts
nothing. -/
def Obligations.LineAccessTakesMaskAndKeepsMarkedBytes : Prop :=
  (∀ (s : State) (a : ActiveJob) (phase : ActiveJob → EngineState) (d : Line) (n : Nat),
      (phase = .running ∨ phase = .draining) → s.txe.engine = phase a → a.stage = .awaitWork d →
      let off : Offset := a.workSnapshot + BitVec.ofNat 24 (a.nextLine * 32)
      let started (st : LineStage) (w : WorkAccess) : State := { s with
        txe := { s.txe with engine := phase { a with stage := st } }
        wsc := { s.wsc with access := some w }
        wpa := { s.wpa with
          idle := .stopped
          guarantee := if s.wpa.guarantee = .running 0 then .expired else s.wpa.guarantee } }
      (∀ m : ByteMap, a.job.kind ≠ .verify → s.txe.map = some m →
        let mask := LineMasks.read m.masks (a.nextLine - a.job.firstLine)
        (mask = BitVec.allOnes 32 → State.serveEngine (n + 1) s = State.serveEngine n (s.completeLine .skipped))
        ∧ (mask ≠ BitVec.allOnes 32 →
            State.serveEngine (n + 1) s = started .workWrite (.lineWrite off d mask false)))
      ∧ (a.job.kind = .verify →
          State.serveEngine (n + 1) s = started (.workRead d) (.lineRead off s.wsc.parityCheck false)))
    ∧ ∀ (s : State) (off : Offset) (data : Line) (mask : LineMask) (dropped : Bool),
        s.StoresCanonical → s.wsc.access = some (.lineWrite off data mask dropped) →
        ∃ u : State, ButWork { s with wsc := { s.wsc with access := none } } u
          ∧ WorkWritten off.toNat 32 (fun k => !mask.getLsbD k) (lineByte data) s u
          ∧ exec .lineWriteComplete s = .next (State.drive (State.settle
              (if dropped then u else u.completeLine (if mask = 0#32 then .plain else .merged))))

/-- The completion of a VERIFY line's Work read: with the check on and a byte disagreeing with its parity, a WORK_PARITY
fault for the first failing word and a mismatch; otherwise, with a byte that differs from the Boot data, a
VERIFY_MISMATCH fault for the first one and a mismatch; otherwise the line completes plain. A dropped read compares
nothing. -/
def Obligations.VerifyReportsFirstDifference : Prop :=
  ∀ (s : State) (off : Offset) (check : Bool),
    (s.wsc.access = some (.lineRead off check true) →
      exec .verifyReadComplete s = .next (State.drive (State.settle { s with wsc := { s.wsc with access := none } })))
    ∧ ∀ (a : ActiveJob) (boot : Line), s.wsc.access = some (.lineRead off check false) →
        s.txe.engine.active = some a → a.stage = .workRead boot →
        let work (k : Fin 32) : Byte := Memory.read s.work (off.toNat + k.val)
        let fails (k : Nat) : Prop := check = true
          ∧ ¬ OddParity (Memory.read s.work (off.toNat + k)) (ParityBits.read s.workParity (off.toNat + k))
        let fault (f : FaultRecord) : State :=
          State.completeLine .mismatch { s with wsc := { s.wsc with access := none }, rpu := s.rpu.takeFault f }
        (∀ (w : Nat) (lanes : Lanes), w < 8 → (∀ k, k < 4 * w → ¬ fails k) →
            (∀ k, k < 4 → (lanes.getLsbD k = true ↔ fails (4 * w + k))) → lanes ≠ 0#4 →
            exec .verifyReadComplete s = .next (State.drive (State.settle (fault
              { kind := .workParity, source := .engine, address := (off + BitVec.ofNat 24 (4 * w)).setWidth 32
                direction := none, block := none, tag := some a.job.tag, lanes := some lanes, detail := none
                awaited := none, repeats := 1#8 }))))
        ∧ (∀ p : Fin 32, (∀ k, k < 32 → ¬ fails k) → (∀ k : Fin 32, k < p → boot[k] = work k) → boot[p] ≠ work p →
            exec .verifyReadComplete s = .next (State.drive (State.settle (fault
              { kind := .verifyMismatch, source := .engine, address := off.setWidth 32, direction := none, block := none
                tag := some a.job.tag, lanes := none
                detail := some { position := BitVec.ofNat 5 p.val, bootByte := boot[p], workByte := work p }
                awaited := none, repeats := 1#8 }))))
        ∧ ((∀ k, k < 32 → ¬ fails k) → (∀ k : Fin 32, boot[k] = work k) →
            exec .verifyReadComplete s = .next (State.drive (State.settle
              (State.completeLine .plain { s with wsc := { s.wsc with access := none } }))))

/-- A line begins: a FILL line in AWAIT_WORK with the pattern eight times, least significant byte first; any other in
BOOT_READ where the Boot Store Controller is free, otherwise in AWAIT_BOOT with its request held. A completed line is
counted once, and the job ends ABORTED while DRAINING, FAILED at the mismatch limit, DONE after its last line; otherwise
the next line begins. -/
def Obligations.LinesBeginAndCompleteInOrder : Prop :=
  (∀ (s : State) (a : ActiveJob),
      let off := a.bootSnapshot + BitVec.ofNat 24 (a.nextLine * 32)
      let running (st : LineStage) : Txe := { s.txe with engine := .running { a with stage := st } }
      (a.job.kind = .fill → s.beginLine a = { s with txe := running (.awaitWork
          (Vector.ofFn fun k => (a.job.pattern >>> (8 * (k.val % 4))).setWidth 8)) })
      ∧ (a.job.kind ≠ .fill → s.bsc.accessor = none → s.bsc.hostRequest = none →
          s.beginLine a = { s with
            txe := running .bootRead
            bsc := { s.bsc with
              engineRequest := none
              accessor := some { user := .engine, offset := off, dropped := false
                                 durationNs := 400 * (s.bsc.accessTime.toNat + 1) } } })
      ∧ (a.job.kind ≠ .fill → (s.bsc.accessor ≠ none ∨ s.bsc.hostRequest ≠ none) →
          s.beginLine a = { s with txe := running .awaitBoot, bsc := { s.bsc with engineRequest := some off } }))
    ∧ ∀ (s : State) (a : ActiveJob) (r : LineResult),
      let n : ActiveJob := { a with
        linesDone := a.linesDone + 1
        skipped := a.skipped + (if r = .skipped then 1 else 0)
        merged := a.merged + (if r = .merged then 1 else 0)
        mismatches := a.mismatches + (if r = .mismatch then 1 else 0) }
      let limit := r = .mismatch ∧ a.job.limit.toNat ≤ n.mismatches
      let last := a.job.firstLine + a.job.lineCount ≤ a.nextLine + 1
      (s.txe.engine = .draining a → s.completeLine r = s.jobEnd n .aborted .abortCommand)
      ∧ (s.txe.engine = .running a → limit → s.completeLine r = s.jobEnd n .failed .mismatchLimit)
      ∧ (s.txe.engine = .running a → ¬ limit → last → s.completeLine r = s.jobEnd n .done .none)
      ∧ (s.txe.engine = .running a → ¬ limit → ¬ last →
          s.completeLine r = s.beginLine { n with nextLine := a.nextLine + 1 })

/-- A job end releases the pin, disarms the map, writes the action's mode into the block's entry when the job is DONE and
the lock is clear, and appends the completion record to the list where it has room, leaving the engine IDLE, or holds it
in RETIRING; nothing else changes. -/
def Obligations.JobEndReleasesActsAndReports : Prop :=
  ∀ (s : State) (a : ActiveJob) (outcome : JobOutcome) (reason : Reason),
    let result : ActionResult :=
      if a.job.action = none then .noneRequested
      else if outcome ≠ .done then .notApplied
      else if s.rtu.lock then .refusedLocked else .applied
    let record : CompletionRecord :=
      { tag := a.job.tag, kind := a.job.kind, block := a.job.block, outcome := outcome, reason := reason
        linesDone := a.linesDone
        skipped := if a.job.kind = .verify then 0 else a.skipped
        merged := if a.job.kind = .verify then 0 else a.merged
        mismatches := if a.job.kind = .verify then a.mismatches else 0
        actionResult := result }
    let e := s.rtu.routes[a.job.block]
    let routes := match a.job.action with
      | some m => if result = .applied then s.rtu.routes.set a.job.block { e with mode := m } else s.rtu.routes
      | none => s.rtu.routes
    s.jobEnd a outcome reason =
      if s.rpu.completions.length < 8 then
        { s with
          rtu := { s.rtu with pin := none, routes := routes }
          txe := { s.txe with map := none, engine := .idle }
          rpu := { s.rpu with completions := s.rpu.completions ++ [record] } }
      else
        { s with
          rtu := { s.rtu with pin := none, routes := routes }
          txe := { s.txe with map := none, engine := .retiring record } }

/-! ### The Work Store port -/

/-- The settling of the port is the arbiter's work, one thing after another, at most eight (log entry 18). With an owner
and no access in progress: an expired guarantee hands the port over where another requester wants it, a guarantee of 0
having expired at a release; otherwise HOST_PATH that wants it starts the drain of its oldest entry, or with an empty
buffer its host access, a read with the parity-check enable as it stands; ENGINE that wants it stops the idle timer and
serves its line; an idle owner another requester waits for starts the idle timer with the idle window as set, a window
of 0 forfeiting at once, and a timer that runs goes on; an owner nobody waits for parks with the timer stopped. What
settling can change: the owner, its timers and the counters; the access in progress; the state of the host cycle and its
timer; and, through lines that are skipped, what a line's end changes, of the routes their modes only. Everything else,
both stores among it, is as before. That a running timer goes on also where AUX releases the port is the model's reading
(log entry 24). -/
def Obligations.SettlingServesOwnersAndKeepsTheRest : Prop :=
  (∀ s : State, s.settle = s.arbitrate 8)
  ∧ (∀ (s : State) (o : Requester) (n : Nat), s.wsc.access = none → s.wpa.owner = some o →
      let other := ∃ r, r ≠ o ∧ s.wants r = true
      let busy := o ≠ .aux ∧ s.wants o = true
      let g : GuaranteeTimer :=
        if s.wpa.guarantee = .running 0 ∧ s.wants o = false then .expired else s.wpa.guarantee
      let u : State := { s with wpa := { s.wpa with guarantee := g } }
      let timed (i : IdleTimer) : State := { u with wpa := { u.wpa with idle := i } }
      let started (w : WorkAccess) (h : Hbi) : State := { s with
        hbi := h
        wsc := { s.wsc with access := some w }
        wpa := { s.wpa with idle := .stopped, guarantee := if g = .running 0 then .expired else g } }
      let window := match o with
        | .hostPath => s.wpa.idleWindows.hostPath
        | .engine => s.wpa.idleWindows.engine
        | .aux => s.wpa.idleWindows.aux
      (other → g = .expired → s.arbitrate (n + 1) = (u.handover o false).arbitrate n)
      ∧ (¬ (other ∧ g = .expired) → o = .hostPath → busy →
          (s.hbi.buffer ≠ [] → s.arbitrate (n + 1) = started .drain s.hbi)
          ∧ (∀ c, s.hbi.buffer = [] → s.hbi.cycle = some c → s.arbitrate (n + 1) = started
              (if c.dir = .read then .hostRead s.wsc.parityCheck else .hostWrite)
              { s.hbi with cycle := some { c with stage := .workAccess }, timerRunning := false }))
      ∧ (¬ (other ∧ g = .expired) → o = .engine → busy →
          s.arbitrate (n + 1) = (State.serveEngine s.linesLeft (timed .stopped)).arbitrate n)
      ∧ (¬ busy → other → g ≠ .expired → g ≠ .stopped →
          (s.wpa.idle ≠ .stopped → s.arbitrate (n + 1) = u)
          ∧ (s.wpa.idle = .stopped → window = 0#8 → s.arbitrate (n + 1) = (u.handover o true).arbitrate n)
          ∧ (s.wpa.idle = .stopped → window ≠ 0#8 → s.arbitrate (n + 1) = timed (.running window.toNat)))
      ∧ (¬ busy → ¬ other → s.arbitrate (n + 1) = timed .stopped))
  ∧ ∀ s : State,
    let t := s.settle
    t = { s with
      hbi := { s.hbi with cycle := t.hbi.cycle, timerRunning := t.hbi.timerRunning }
      rtu := { s.rtu with pin := t.rtu.pin, routes := t.rtu.routes }
      txe := { s.txe with engine := t.txe.engine, map := t.txe.map }
      wsc := { s.wsc with access := t.wsc.access }
      wpa := { t.wpa with
        guarantees := s.wpa.guarantees, idleWindows := s.wpa.idleWindows, counting := s.wpa.counting
        snapshot := s.wpa.snapshot }
      bsc := { s.bsc with accessor := t.bsc.accessor, engineRequest := t.bsc.engineRequest }
      rpu := { s.rpu with completions := t.rpu.completions } }
    ∧ (∀ b : Fin 64, t.rtu.routes[b] = { s.rtu.routes[b] with mode := t.rtu.routes[b].mode })
    ∧ (s.wsc.access ≠ none → t = s)
    ∧ (t.hbi.cycle = s.hbi.cycle
        ∨ (t.hbi.cycle = s.hbi.cycle.map (fun c => { c with stage := .workAccess }) ∧ t.hbi.timerRunning = false))

/-- When each requester wants the port (R101, Table 6-1), and how it gets it: with no owner and no access in progress the
first wanting requester in ring order after the last owner is granted, its guarantee starting as set, and a grant is
counted; with no owner and none that wants it nothing happens. A handover makes the leaving owner the last owner and
grants the first wanting requester in ring order after it, and counts a forfeit by idle expiry, or otherwise a preemption
where the leaving owner still wants the port. A counter at its maximum stays. -/
def Obligations.WantingRequestersGetPortInRingOrder : Prop :=
  (∀ s : State,
      (s.wants .hostPath = true ↔ s.hbi.buffer ≠ [] ∨ ∃ c, s.hbi.cycle = some c
        ∧ (c.stage = .awaitDrain ∨ c.stage = .awaitWork ∨ c.stage = .workAccess))
      ∧ (s.wants .engine = true ↔
          (∃ a, (s.txe.engine = .running a ∨ s.txe.engine = .draining a)
            ∧ ((∃ d, a.stage = .awaitWork d) ∨ a.stage = .workWrite ∨ ∃ d, a.stage = .workRead d))
          ∨ (∃ off d m x, s.wsc.access = some (.lineWrite off d m x)) ∨ ∃ off k x, s.wsc.access = some (.lineRead off k x))
      ∧ (s.wants .aux = true ↔ s.amp.areq = true ∧ s.inReset = false))
  ∧ (∀ (n : Nat) (c : BitVec n), (advance c).toNat = if c.toNat + 1 = 2 ^ n then c.toNat else c.toNat + 1)
  ∧ (∀ (s : State) (r : Requester) (n : Nat), s.wsc.access = none → s.wpa.owner = none →
      s.FirstInRing s.wpa.lastOwner r →
      let live (x : Requester) : Counters :=
        let c := s.wpa.live.get x
        if s.wpa.counting = true ∧ x = r then { c with grants := advance c.grants } else c
      s.arbitrate (n + 1) = State.arbitrate n { s with wpa := { s.wpa with
        owner := some r, guarantee := .running (s.wpa.guarantees.get r).toNat, idle := .stopped
        live := { hostPath := live .hostPath, engine := live .engine, aux := live .aux } } })
  ∧ (∀ s : State, s.wpa.owner = none → (∀ r, s.wants r = false) → s.settle = s)
  ∧ ∀ (s : State) (o r : Requester) (forfeit : Bool), s.wsc.access = none → o ≠ r → s.FirstInRing o r →
    let live (x : Requester) : Counters :=
      let c := s.wpa.live.get x
      if s.wpa.counting = false then c
      else if x = r then { c with grants := advance c.grants }
      else if x = o ∧ forfeit = true then { c with forfeits := advance c.forfeits }
      else if x = o ∧ s.wants o = true then { c with preemptions := advance c.preemptions }
      else c
    s.handover o forfeit = { s with wpa := { s.wpa with
      owner := some r, lastOwner := o, guarantee := .running (s.wpa.guarantees.get r).toNat, idle := .stopped
      live := { hostPath := live .hostPath, engine := live .engine, aux := live .aux } } }

/-- A tick of the unit clock: each waiting requester's wait units advance while counting is on; then a guarantee at its
last tick expires, and an idle timer at its last tick forfeits the port; the port is settled. GUARANTEE_EXPIRY and
IDLE_EXPIRY are the ticks at which their timer is due: the model's reading (log entry 7). -/
def Obligations.TickCountsWaitsThenExpires : Prop :=
  ∀ s : State, s.wpa.idle ≠ .running 0 →
    let live (r : Requester) : Counters :=
      let c := s.wpa.live.get r
      if s.wpa.counting = true ∧ s.wants r = true ∧ s.wpa.owner ≠ some r then { c with waitUnits := advance c.waitUnits }
      else c
    let u : State := { s with wpa := { s.wpa with
      live := { hostPath := live .hostPath, engine := live .engine, aux := live .aux }
      guarantee := match s.wpa.guarantee with
        | .running 1 => .expired
        | .running (n + 2) => .running (n + 1)
        | other => other
      idle := match s.wpa.idle with
        | .running n => .running (n - 1)
        | .stopped => .stopped } }
    let t : State := match s.wpa.idle, s.wpa.owner with
      | .running 1, some o => (u.handover o true).settle.drive
      | _, _ => u.settle.drive
    exec .arbiterTick s = .next t
    ∧ (s.wpa.guarantee = .running 1 → exec .guaranteeExpiry s = .next t)
    ∧ (s.wpa.idle = .running 1 → exec .idleExpiry s = .next t)

/-! ### The Auxiliary Master Port -/

/-- AREQ and ASTB between cycles: AREQ asserted or deasserted changes AUX's want and the port is settled; a drop of ASTB
ends an answered cycle and does not cut an access short; an assertion during an access starts no second cycle. While
RESET is asserted only the levels change. How an assertion and a deassertion of AREQ meet the idle timer, and the levels
during RESET, are the model's reading (log entries 8, 24 and 13). -/
def Obligations.AuxLinesChangeWantAndHandshake : Prop :=
  (∀ s : State, s.amp.areq = false → s.inReset = false →
      exec .areqAssert s = .next (State.drive (State.settle { s with
        amp := { s.amp with areq := true }
        wpa := { s.wpa with
          idle := if s.wpa.owner = some .aux ∧ s.wsc.access = none then .stopped else s.wpa.idle } })))
    ∧ (∀ s : State, s.amp.areq = true → s.inReset = false →
      exec .areqDeassert s = .next (State.drive (State.settle { s with amp := { s.amp with areq := false } })))
    ∧ (∀ s : State, s.amp.areq = false → s.inReset = true →
      exec .areqAssert s = .next (State.drive { s with amp := { s.amp with areq := true } }))
    ∧ (∀ s : State, s.amp.areq = true → s.inReset = true →
      exec .areqDeassert s = .next (State.drive { s with amp := { s.amp with areq := false } }))
    ∧ (∀ s : State, s.amp.astb = true →
      exec .astbDrop s = .next (State.drive { s with amp := { s.amp with
        astb := false
        cycle := match s.amp.cycle with | .answered _ _ => .noCycle | other => other } }))
    ∧ (∀ (s : State) (x : AuxCycle), s.amp.cycle = .access x → s.amp.astb = false →
      exec .astbAssertionDuringAccess s = .next (State.drive { s with amp := { s.amp with astb := true } }))
    ∧ ∀ (s : State) (c : AuxRequest), s.amp.astb = false → s.inReset = true →
      exec (.auxCycleStart c) s = .next (State.drive { s with amp := { s.amp with astb := true } })

/-- An aux cycle is decided in its start event: ungranted without AGNT; then answered without an access where no lane is
carried; then refused outside the aux window; otherwise its Work Store access starts. The cycle sampled keeps the data of
its carried lanes; that the other lanes, and a read, hold 0 is the model's choice (log entry 15). -/
def Obligations.AuxCycleStartIsDecidedInOrder : Prop :=
  ∀ (s : State) (c : AuxRequest), s.amp.astb = false → s.inReset = false → s.amp.cycle = .noCycle →
    ∃ kept : Word,
    (∀ k : Nat, k < 4 →
      (kept >>> (8 * k)).setWidth 8 = if carries c.lanes k then (c.data >>> (8 * k)).setWidth 8 else 0#8) ∧
    let off : Offset := c.aa ++ 0#2
    let x : AuxCycle :=
      { offset := off, dir := c.dir, lanes := c.lanes, data := if c.dir = .write then kept else 0#32 }
    let fault (k : FaultKind) : FaultRecord :=
      { kind := k, source := .aux, address := off.setWidth 32, direction := some c.dir, block := none, tag := none
        lanes := none, detail := none, awaited := none, repeats := 1#8 }
    let answered (error : Bool) : Amp := { s.amp with
      astb := true
      cycle := .answered x { error := error, data := if c.dir = .read then some 0xFFFFFFFF#32 else none } }
    let inside := s.amp.windowBase.toNat ≤ off.toNat ∧ off.toNat < s.amp.windowLimit.toNat + 0x1000
    (s.pins.agnt = false → exec (.auxCycleStart c) s
        = .next (State.drive { s with amp := answered true, rpu := s.rpu.takeFault (fault .auxUngranted) }))
    ∧ (s.pins.agnt = true → c.lanes = 0#4 → exec (.auxCycleStart c) s
        = .next (State.drive { s with amp := answered false }))
    ∧ (s.pins.agnt = true → c.lanes ≠ 0#4 → ¬ inside → exec (.auxCycleStart c) s
        = .next (State.drive { s with amp := answered true, rpu := s.rpu.takeFault (fault .auxRange) }))
    ∧ (s.pins.agnt = true → c.lanes ≠ 0#4 → inside → exec (.auxCycleStart c) s = .next (State.drive { s with
        amp := { s.amp with astb := true, cycle := .access x }
        wsc := { s.wsc with access := some (.aux s.wsc.parityCheck) }
        wpa := { s.wpa with
          idle := .stopped
          guarantee := if s.wpa.guarantee = .running 0 then .expired else s.wpa.guarantee } }))

/-- The completion of an aux access: a write writes its carried lanes with fresh parity and marks the map; a read returns
the carried lanes with 0xFF on the others, with AERR and a WORK_PARITY record where a checked carried lane disagrees. It
is answered where ASTB is asserted, and otherwise forgotten; the port is settled. -/
def Obligations.AuxAccessWritesOrReturnsBytes : Prop :=
  ∀ (s : State) (x : AuxCycle) (check : Bool), s.wsc.access = some (.aux check) → s.amp.cycle = .access x →
    let after (error : Bool) (data : Option Word) : Amp := { s.amp with
      cycle := if s.amp.astb then .answered x { error := error, data := data } else .noCycle }
    (s.StoresCanonical → x.dir = .write →
      let v : State := { s with
        wsc := { s.wsc with access := none }
        txe := { s.txe with map := s.txe.map.map fun m => m.mark x.offset x.lanes }
        amp := after false none }
      ∃ u : State, ButWork v u ∧ WorkWritten x.offset.toNat 4 (carries x.lanes) (getByte x.data) s u
        ∧ exec .auxAccessComplete s = .next u.settle.drive)
    ∧ ∀ (bad : Lanes) (data : Word), x.dir = .read →
        (∀ k : Nat, k < 4 → (bad.getLsbD k = true ↔ check = true ∧ carries x.lanes k = true
          ∧ ¬ OddParity (Memory.read s.work (x.offset.toNat + k)) (ParityBits.read s.workParity (x.offset.toNat + k)))) →
        (∀ k : Nat, k < 4 → (data >>> (8 * k)).setWidth 8 =
          if carries x.lanes k then Memory.read s.work (x.offset.toNat + k) else 0xFF#8) →
        exec .auxAccessComplete s = .next (State.drive (State.settle { s with
          wsc := { s.wsc with access := none }
          amp := after (decide (bad ≠ 0#4)) (some data)
          rpu := if bad = 0#4 then s.rpu else s.rpu.takeFault
            { kind := .workParity, source := .aux, address := x.offset.setWidth 32, direction := some .read
              block := none, tag := none, lanes := some bad, detail := none, awaited := none, repeats := 1#8 } }))

/-! ### The Fault Queue -/

/-- The Reporting Unit takes a fault by the first case that applies: it is coalesced into a newest record of the same
kind, source and address with fewer than 255 repeats; otherwise appended with one repeat while fewer than 8 records are
held; otherwise lost and counted. -/
def Obligations.FaultsCoalesceAppendOrAreLost : Prop :=
  ∀ (u : Rpu) (f : FaultRecord),
    (∀ older newest, u.faults = older ++ [newest] → newest.kind = f.kind → newest.source = f.source →
        newest.address = f.address → newest.repeats.toNat < 255 →
        u.takeFault f = { u with faults := older ++ [{ newest with repeats := newest.repeats + 1#8 }] })
    ∧ ((∀ newest, u.faults.getLast? = some newest →
          ¬ (newest.kind = f.kind ∧ newest.source = f.source ∧ newest.address = f.address
            ∧ newest.repeats.toNat < 255)) →
        (u.faults.length < 8 → u.takeFault f = { u with faults := u.faults ++ [{ f with repeats := 1#8 }] })
        ∧ (8 ≤ u.faults.length →
            u.takeFault f = { u with overflow := true, lost := if u.lost = 255#8 then 255#8 else u.lost + 1#8 }))

/-! ### Hardware reset -/

/-- The assertion of RESET abandons the Work Store access in progress, each byte of an abandoned write holding its old
value or the written value with parity to match, and empties the host cycle, the Write Post Buffer, the Transfer Engine
with its pin and its map, the two store ports, the aux cycle, the Reporting Unit, the hit counts and the staging
records; the select lines go high and the other outputs are deasserted. What is cleared here rather than at the release
is the model's reading (log entry 12); which bytes have landed is free (log entry 2). -/
def Obligations.ResetAssertionEmptiesThePart : Prop :=
  ∀ s : State, s.inReset = false →
    ∃ t : State, exec .resetAssert s = .next t
      ∧ t.inReset = true ∧ t.hbi.cycle = none ∧ t.hbi.buffer = [] ∧ t.hbi.timerRunning = false
      ∧ t.txe.queue = [] ∧ t.txe.engine = .idle ∧ t.txe.map = none ∧ t.rtu.pin = none
      ∧ t.wsc.access = none ∧ t.wpa.owner = none ∧ t.wpa.lastOwner = .aux ∧ t.wpa.guarantee = .stopped
      ∧ t.wpa.idle = .stopped ∧ t.bsc.accessor = none ∧ t.bsc.hostRequest = none ∧ t.bsc.engineRequest = none
      ∧ t.amp.cycle = .noCycle ∧ t.rpu.faults = [] ∧ t.rpu.overflow = false ∧ t.rpu.lost = 0#8
      ∧ t.rpu.completions = [] ∧ t.rpu.mask = 0#4 ∧ t.rgw.staging = zeroStaging
      ∧ (∀ i : Fin 16, t.rtu.overlays[i].hits = 0#16)
      ∧ t.pins.sel = 0xF#4 ∧ t.pins.int = false ∧ t.pins.agnt = false ∧ t.pins.adone = false ∧ t.pins.aerr = false
      ∧ t.pins.ad = none
      ∧ t.boot = s.boot ∧ t.straps = s.straps ∧ t.amp.areq = s.amp.areq ∧ t.amp.astb = s.amp.astb
      ∧ (∀ e rest, s.StoresCanonical → s.wsc.access = some .drain → s.hbi.buffer = e :: rest →
          WorkPerhapsWritten e.offset.toNat 4 (carries e.lanes) (getByte e.data) s t)
      ∧ (∀ c, s.StoresCanonical → s.wsc.access = some .hostWrite → s.hbi.cycle = some c →
          WorkPerhapsWritten c.offset.toNat 4 (carries c.lanes) (getByte c.data) s t)
      ∧ (∀ off d m x, s.StoresCanonical → s.wsc.access = some (.lineWrite off d m x) →
          WorkPerhapsWritten off.toNat 32 (fun k => !m.getLsbD k) (lineByte d) s t)
      ∧ (∀ c k, s.StoresCanonical → s.wsc.access = some (.aux k) → s.amp.cycle = .access c → c.dir = .write →
          WorkPerhapsWritten c.offset.toNat 4 (carries c.lanes) (getByte c.data) s t)
      ∧ ((s.wsc.access = none ∨ (∃ k, s.wsc.access = some (.hostRead k))
            ∨ (∃ o k x, s.wsc.access = some (.lineRead o k x))
            ∨ (∃ c k, s.wsc.access = some (.aux k) ∧ s.amp.cycle = .access c ∧ c.dir = .read)) → SameWork s t)

/-- The release of RESET loads every register with its reset value for the sampled straps, leaves the stores as they are,
and lets an asserted AREQ take the first grant. What is loaded here rather than at the assertion is the model's reading
(log entry 12). -/
def Obligations.ResetReleaseLoadsResetValues : Prop :=
  ∀ (st : Straps) (s : State), s.inReset = true →
    ∃ t : State, exec (.resetRelease st) s = .next t
      ∧ t.inReset = false ∧ t.straps = st
      ∧ t.rtu.windowBase = (if st.winpos then 0xFF000000#32 else 0#32) ∧ t.rtu.windowEnable = true
      ∧ (∀ b : Fin 64,
          let n := if st.bootspan = 0#2 then 0 else if st.bootspan = 1#2 then 1 else if st.bootspan = 2#2 then 2 else 4
          t.rtu.routes[b] =
            { mode := if (if st.winpos then 64 ≤ b.val + n else b.val < n) then .boot else .pass
              bootBase := BitVec.ofNat 24 (b.val * 0x40000 % (0x200000 * 2 ^ st.bsize.toNat))
              workBase := BitVec.ofNat 24 (b.val * 0x40000 % (0x200000 * 2 ^ st.wsize.toNat))
              faultAction := .record })
      ∧ (∀ i : Fin 16, t.rtu.overlays[i] =
          { enabled := false, hostPage := 0#12, workPage := 0#24, scope := .reads, hits := 0#16 })
      ∧ t.rtu.pin = none ∧ t.rtu.lock = false
      ∧ t.hbi.cycle = none ∧ t.hbi.buffer = [] ∧ t.hbi.timerRunning = false ∧ t.hbi.postingEnable = true
      ∧ t.hbi.waitLimit = 0#8 ∧ t.hbi.parityTermination = false
      ∧ t.txe.queue = [] ∧ t.txe.engine = .idle ∧ t.txe.map = none
      ∧ t.wsc.parityCheck = false ∧ t.wsc.access = none
      ∧ t.wpa.owner = (if s.amp.areq then some .aux else none) ∧ t.wpa.lastOwner = .aux ∧ t.wpa.idle = .stopped
      ∧ t.wpa.guarantees = { hostPath := 16#8, engine := 8#8, aux := 32#8 }
      ∧ t.wpa.idleWindows = { hostPath := 4#8, engine := 2#8, aux := 8#8 }
      ∧ t.wpa.counting = false ∧ t.wpa.live = zeroMonitor ∧ t.wpa.snapshot = zeroMonitor
      ∧ t.bsc.accessor = none ∧ t.bsc.hostRequest = none ∧ t.bsc.engineRequest = none ∧ t.bsc.accessTime = 7#3
      ∧ t.amp.windowBase = 0#24 ∧ t.amp.windowLimit = BitVec.ofNat 24 (0x200000 * 2 ^ st.wsize.toNat - 0x1000)
      ∧ t.amp.cycle = .noCycle ∧ t.amp.areq = s.amp.areq ∧ t.amp.astb = s.amp.astb
      ∧ t.rpu.faults = [] ∧ t.rpu.overflow = false ∧ t.rpu.lost = 0#8 ∧ t.rpu.completions = [] ∧ t.rpu.mask = 0#4
      ∧ (∀ k : Fin 4, t.sdc.records[k] =
          { enabled := false, space := .memory, sizeCode := 4#5, base := 0#32, qualifier := .either
            polarity := .activeLow, unclaimedOnly := false })
      ∧ t.rgw.portBase = (if st.portsel then 0x1D4#16 else 0x2D4#16) ∧ t.rgw.index = 0#8 ∧ t.rgw.argument = 0#8
      ∧ t.rgw.lastCommand = 0#8 ∧ t.rgw.result = .ok ∧ t.rgw.resultArg = 0#8 ∧ t.rgw.staging = zeroStaging
      ∧ t.pins.sel = 0xF#4 ∧ t.pins.int = false ∧ t.pins.agnt = s.amp.areq ∧ t.pins.adone = false
      ∧ t.boot = s.boot ∧ t.work = s.work ∧ t.workParity = s.workParity
end

