-- ==== Sys2Proof/Laws/State.lean ====
section
/-! SUPPORT. What each update of the state leaves and changes: one lemma for each field of State and each named update,
true by definition. -/

namespace Sys2Proof.Machine

@[simp] theorem State.handFault_hbi (s : State) (f : FaultRecord) : (s.handFault f).hbi = s.hbi := rfl
@[simp] theorem State.handFault_rtu (s : State) (f : FaultRecord) : (s.handFault f).rtu = s.rtu := rfl
@[simp] theorem State.handFault_txe (s : State) (f : FaultRecord) : (s.handFault f).txe = s.txe := rfl
@[simp] theorem State.handFault_wsc (s : State) (f : FaultRecord) : (s.handFault f).wsc = s.wsc := rfl
@[simp] theorem State.handFault_wpa (s : State) (f : FaultRecord) : (s.handFault f).wpa = s.wpa := rfl
@[simp] theorem State.handFault_bsc (s : State) (f : FaultRecord) : (s.handFault f).bsc = s.bsc := rfl
@[simp] theorem State.handFault_amp (s : State) (f : FaultRecord) : (s.handFault f).amp = s.amp := rfl
@[simp] theorem State.handFault_rpu (s : State) (f : FaultRecord) : (s.handFault f).rpu = s.rpu.takeFault f := rfl
@[simp] theorem State.handFault_sdc (s : State) (f : FaultRecord) : (s.handFault f).sdc = s.sdc := rfl
@[simp] theorem State.handFault_rgw (s : State) (f : FaultRecord) : (s.handFault f).rgw = s.rgw := rfl
@[simp] theorem State.handFault_straps (s : State) (f : FaultRecord) : (s.handFault f).straps = s.straps := rfl
@[simp] theorem State.handFault_inReset (s : State) (f : FaultRecord) : (s.handFault f).inReset = s.inReset := rfl
@[simp] theorem State.handFault_pins (s : State) (f : FaultRecord) : (s.handFault f).pins = s.pins := rfl
@[simp] theorem State.handFault_boot (s : State) (f : FaultRecord) : (s.handFault f).boot = s.boot := rfl
@[simp] theorem State.handFault_work (s : State) (f : FaultRecord) : (s.handFault f).work = s.work := rfl
@[simp] theorem State.handFault_workParity (s : State) (f : FaultRecord) :
    (s.handFault f).workParity = s.workParity := rfl
@[simp] theorem State.handFault_freeCount (s : State) (f : FaultRecord) : (s.handFault f).freeCount = s.freeCount := rfl
@[simp] theorem State.handFault_pending (s : State) (f : FaultRecord) : (s.handFault f).pending = s.pending := rfl

@[simp] theorem State.mark_hbi (s : State) (off : Offset) (lanes : Lanes) : (s.mark off lanes).hbi = s.hbi := rfl
@[simp] theorem State.mark_rtu (s : State) (off : Offset) (lanes : Lanes) : (s.mark off lanes).rtu = s.rtu := rfl
@[simp] theorem State.mark_txe (s : State) (off : Offset) (lanes : Lanes) :
    (s.mark off lanes).txe = { s.txe with map := s.txe.map.map fun m => m.mark off lanes } := rfl
@[simp] theorem State.mark_wsc (s : State) (off : Offset) (lanes : Lanes) : (s.mark off lanes).wsc = s.wsc := rfl
@[simp] theorem State.mark_wpa (s : State) (off : Offset) (lanes : Lanes) : (s.mark off lanes).wpa = s.wpa := rfl
@[simp] theorem State.mark_bsc (s : State) (off : Offset) (lanes : Lanes) : (s.mark off lanes).bsc = s.bsc := rfl
@[simp] theorem State.mark_amp (s : State) (off : Offset) (lanes : Lanes) : (s.mark off lanes).amp = s.amp := rfl
@[simp] theorem State.mark_rpu (s : State) (off : Offset) (lanes : Lanes) : (s.mark off lanes).rpu = s.rpu := rfl
@[simp] theorem State.mark_sdc (s : State) (off : Offset) (lanes : Lanes) : (s.mark off lanes).sdc = s.sdc := rfl
@[simp] theorem State.mark_rgw (s : State) (off : Offset) (lanes : Lanes) : (s.mark off lanes).rgw = s.rgw := rfl
@[simp] theorem State.mark_straps (s : State) (off : Offset) (lanes : Lanes) :
    (s.mark off lanes).straps = s.straps := rfl
@[simp] theorem State.mark_inReset (s : State) (off : Offset) (lanes : Lanes) :
    (s.mark off lanes).inReset = s.inReset := rfl
@[simp] theorem State.mark_pins (s : State) (off : Offset) (lanes : Lanes) : (s.mark off lanes).pins = s.pins := rfl
@[simp] theorem State.mark_boot (s : State) (off : Offset) (lanes : Lanes) : (s.mark off lanes).boot = s.boot := rfl
@[simp] theorem State.mark_work (s : State) (off : Offset) (lanes : Lanes) : (s.mark off lanes).work = s.work := rfl
@[simp] theorem State.mark_workParity (s : State) (off : Offset) (lanes : Lanes) :
    (s.mark off lanes).workParity = s.workParity := rfl
@[simp] theorem State.mark_freeCount (s : State) (off : Offset) (lanes : Lanes) :
    (s.mark off lanes).freeCount = s.freeCount := rfl
@[simp] theorem State.mark_pending (s : State) (off : Offset) (lanes : Lanes) :
    (s.mark off lanes).pending = s.pending := rfl

@[simp] theorem State.arrive_hbi (s : State) (sp : Space) (addr : HostAddr) (d : Direction) (cl : Bool) :
    (s.arrive sp addr d cl).hbi = s.hbi := rfl
@[simp] theorem State.arrive_rtu (s : State) (sp : Space) (addr : HostAddr) (d : Direction) (cl : Bool) :
    (s.arrive sp addr d cl).rtu = s.rtu := rfl
@[simp] theorem State.arrive_txe (s : State) (sp : Space) (addr : HostAddr) (d : Direction) (cl : Bool) :
    (s.arrive sp addr d cl).txe = s.txe := rfl
@[simp] theorem State.arrive_wsc (s : State) (sp : Space) (addr : HostAddr) (d : Direction) (cl : Bool) :
    (s.arrive sp addr d cl).wsc = s.wsc := rfl
@[simp] theorem State.arrive_wpa (s : State) (sp : Space) (addr : HostAddr) (d : Direction) (cl : Bool) :
    (s.arrive sp addr d cl).wpa = s.wpa := rfl
@[simp] theorem State.arrive_bsc (s : State) (sp : Space) (addr : HostAddr) (d : Direction) (cl : Bool) :
    (s.arrive sp addr d cl).bsc = s.bsc := rfl
@[simp] theorem State.arrive_amp (s : State) (sp : Space) (addr : HostAddr) (d : Direction) (cl : Bool) :
    (s.arrive sp addr d cl).amp = s.amp := rfl
@[simp] theorem State.arrive_rpu (s : State) (sp : Space) (addr : HostAddr) (d : Direction) (cl : Bool) :
    (s.arrive sp addr d cl).rpu = s.rpu := rfl
@[simp] theorem State.arrive_sdc (s : State) (sp : Space) (addr : HostAddr) (d : Direction) (cl : Bool) :
    (s.arrive sp addr d cl).sdc = s.sdc := rfl
@[simp] theorem State.arrive_rgw (s : State) (sp : Space) (addr : HostAddr) (d : Direction) (cl : Bool) :
    (s.arrive sp addr d cl).rgw = s.rgw := rfl
@[simp] theorem State.arrive_straps (s : State) (sp : Space) (addr : HostAddr) (d : Direction) (cl : Bool) :
    (s.arrive sp addr d cl).straps = s.straps := rfl
@[simp] theorem State.arrive_inReset (s : State) (sp : Space) (addr : HostAddr) (d : Direction) (cl : Bool) :
    (s.arrive sp addr d cl).inReset = s.inReset := rfl
@[simp] theorem State.arrive_pins (s : State) (sp : Space) (addr : HostAddr) (d : Direction) (cl : Bool) :
    (s.arrive sp addr d cl).pins = s.openPins sp addr d cl := rfl
@[simp] theorem State.arrive_boot (s : State) (sp : Space) (addr : HostAddr) (d : Direction) (cl : Bool) :
    (s.arrive sp addr d cl).boot = s.boot := rfl
@[simp] theorem State.arrive_work (s : State) (sp : Space) (addr : HostAddr) (d : Direction) (cl : Bool) :
    (s.arrive sp addr d cl).work = s.work := rfl
@[simp] theorem State.arrive_workParity (s : State) (sp : Space) (addr : HostAddr) (d : Direction) (cl : Bool) :
    (s.arrive sp addr d cl).workParity = s.workParity := rfl
@[simp] theorem State.arrive_freeCount (s : State) (sp : Space) (addr : HostAddr) (d : Direction) (cl : Bool) :
    (s.arrive sp addr d cl).freeCount = s.freeCount := rfl
@[simp] theorem State.arrive_pending (s : State) (sp : Space) (addr : HostAddr) (d : Direction) (cl : Bool) :
    (s.arrive sp addr d cl).pending = s.pending := rfl

@[simp] theorem State.answer_hbi (s : State) (a : HostAnswer) : (s.answer a).hbi = s.hbi := rfl
@[simp] theorem State.answer_rtu (s : State) (a : HostAnswer) : (s.answer a).rtu = s.rtu := rfl
@[simp] theorem State.answer_txe (s : State) (a : HostAnswer) : (s.answer a).txe = s.txe := rfl
@[simp] theorem State.answer_wsc (s : State) (a : HostAnswer) : (s.answer a).wsc = s.wsc := rfl
@[simp] theorem State.answer_wpa (s : State) (a : HostAnswer) : (s.answer a).wpa = s.wpa := rfl
@[simp] theorem State.answer_bsc (s : State) (a : HostAnswer) : (s.answer a).bsc = s.bsc := rfl
@[simp] theorem State.answer_amp (s : State) (a : HostAnswer) : (s.answer a).amp = s.amp := rfl
@[simp] theorem State.answer_rpu (s : State) (a : HostAnswer) : (s.answer a).rpu = s.rpu := rfl
@[simp] theorem State.answer_sdc (s : State) (a : HostAnswer) : (s.answer a).sdc = s.sdc := rfl
@[simp] theorem State.answer_rgw (s : State) (a : HostAnswer) : (s.answer a).rgw = s.rgw := rfl
@[simp] theorem State.answer_straps (s : State) (a : HostAnswer) : (s.answer a).straps = s.straps := rfl
@[simp] theorem State.answer_inReset (s : State) (a : HostAnswer) : (s.answer a).inReset = s.inReset := rfl
@[simp] theorem State.answer_pins (s : State) (a : HostAnswer) : (s.answer a).pins = s.answeredPins a := rfl
@[simp] theorem State.answer_boot (s : State) (a : HostAnswer) : (s.answer a).boot = s.boot := rfl
@[simp] theorem State.answer_work (s : State) (a : HostAnswer) : (s.answer a).work = s.work := rfl
@[simp] theorem State.answer_workParity (s : State) (a : HostAnswer) : (s.answer a).workParity = s.workParity := rfl
@[simp] theorem State.answer_freeCount (s : State) (a : HostAnswer) : (s.answer a).freeCount = s.freeCount := rfl
@[simp] theorem State.answer_pending (s : State) (a : HostAnswer) : (s.answer a).pending = s.pending := rfl

@[simp] theorem State.endCycle_hbi (s : State) (a : HostAnswer) :
    (s.endCycle a).hbi = { s.hbi with cycle := none, timerRunning := false } := rfl
@[simp] theorem State.endCycle_rtu (s : State) (a : HostAnswer) : (s.endCycle a).rtu = s.rtu := rfl
@[simp] theorem State.endCycle_txe (s : State) (a : HostAnswer) : (s.endCycle a).txe = s.txe := rfl
@[simp] theorem State.endCycle_wsc (s : State) (a : HostAnswer) : (s.endCycle a).wsc = s.wsc := rfl
@[simp] theorem State.endCycle_wpa (s : State) (a : HostAnswer) : (s.endCycle a).wpa = s.wpa := rfl
@[simp] theorem State.endCycle_bsc (s : State) (a : HostAnswer) : (s.endCycle a).bsc = s.bsc := rfl
@[simp] theorem State.endCycle_amp (s : State) (a : HostAnswer) : (s.endCycle a).amp = s.amp := rfl
@[simp] theorem State.endCycle_rpu (s : State) (a : HostAnswer) : (s.endCycle a).rpu = s.rpu := rfl
@[simp] theorem State.endCycle_sdc (s : State) (a : HostAnswer) : (s.endCycle a).sdc = s.sdc := rfl
@[simp] theorem State.endCycle_rgw (s : State) (a : HostAnswer) : (s.endCycle a).rgw = s.rgw := rfl
@[simp] theorem State.endCycle_straps (s : State) (a : HostAnswer) : (s.endCycle a).straps = s.straps := rfl
@[simp] theorem State.endCycle_inReset (s : State) (a : HostAnswer) : (s.endCycle a).inReset = s.inReset := rfl
@[simp] theorem State.endCycle_pins (s : State) (a : HostAnswer) : (s.endCycle a).pins = s.answeredPins a := rfl
@[simp] theorem State.endCycle_boot (s : State) (a : HostAnswer) : (s.endCycle a).boot = s.boot := rfl
@[simp] theorem State.endCycle_work (s : State) (a : HostAnswer) : (s.endCycle a).work = s.work := rfl
@[simp] theorem State.endCycle_workParity (s : State) (a : HostAnswer) : (s.endCycle a).workParity = s.workParity := rfl
@[simp] theorem State.endCycle_freeCount (s : State) (a : HostAnswer) : (s.endCycle a).freeCount = s.freeCount := rfl
@[simp] theorem State.endCycle_pending (s : State) (a : HostAnswer) : (s.endCycle a).pending = s.pending := rfl

@[simp] theorem State.post_hbi (s : State) (e : PostEntry) :
    (s.post e).hbi = { s.hbi with buffer := s.hbi.buffer ++ [e] } := rfl
@[simp] theorem State.post_rtu (s : State) (e : PostEntry) : (s.post e).rtu = s.rtu := rfl
@[simp] theorem State.post_txe (s : State) (e : PostEntry) :
    (s.post e).txe = { s.txe with map := s.txe.map.map fun m => m.mark e.offset e.lanes } := rfl
@[simp] theorem State.post_wsc (s : State) (e : PostEntry) : (s.post e).wsc = s.wsc := rfl
@[simp] theorem State.post_wpa (s : State) (e : PostEntry) : (s.post e).wpa = s.wpa := rfl
@[simp] theorem State.post_bsc (s : State) (e : PostEntry) : (s.post e).bsc = s.bsc := rfl
@[simp] theorem State.post_amp (s : State) (e : PostEntry) : (s.post e).amp = s.amp := rfl
@[simp] theorem State.post_rpu (s : State) (e : PostEntry) : (s.post e).rpu = s.rpu := rfl
@[simp] theorem State.post_sdc (s : State) (e : PostEntry) : (s.post e).sdc = s.sdc := rfl
@[simp] theorem State.post_rgw (s : State) (e : PostEntry) : (s.post e).rgw = s.rgw := rfl
@[simp] theorem State.post_straps (s : State) (e : PostEntry) : (s.post e).straps = s.straps := rfl
@[simp] theorem State.post_inReset (s : State) (e : PostEntry) : (s.post e).inReset = s.inReset := rfl
@[simp] theorem State.post_pins (s : State) (e : PostEntry) : (s.post e).pins = s.pins := rfl
@[simp] theorem State.post_boot (s : State) (e : PostEntry) : (s.post e).boot = s.boot := rfl
@[simp] theorem State.post_work (s : State) (e : PostEntry) : (s.post e).work = s.work := rfl
@[simp] theorem State.post_workParity (s : State) (e : PostEntry) : (s.post e).workParity = s.workParity := rfl
@[simp] theorem State.post_freeCount (s : State) (e : PostEntry) : (s.post e).freeCount = s.freeCount := rfl
@[simp] theorem State.post_pending (s : State) (e : PostEntry) : (s.post e).pending = s.pending := rfl

@[simp] theorem State.hold_hbi (s : State) (c : HostCycle) :
    (s.hold c).hbi = { s.hbi with cycle := some c, timerRunning := decide (s.hbi.waitLimit ≠ 0#8) } := rfl
@[simp] theorem State.hold_rtu (s : State) (c : HostCycle) : (s.hold c).rtu = s.rtu := rfl
@[simp] theorem State.hold_txe (s : State) (c : HostCycle) : (s.hold c).txe = s.txe := rfl
@[simp] theorem State.hold_wsc (s : State) (c : HostCycle) : (s.hold c).wsc = s.wsc := rfl
@[simp] theorem State.hold_wpa (s : State) (c : HostCycle) : (s.hold c).wpa = s.wpa := rfl
@[simp] theorem State.hold_bsc (s : State) (c : HostCycle) : (s.hold c).bsc = s.bsc := rfl
@[simp] theorem State.hold_amp (s : State) (c : HostCycle) : (s.hold c).amp = s.amp := rfl
@[simp] theorem State.hold_rpu (s : State) (c : HostCycle) : (s.hold c).rpu = s.rpu := rfl
@[simp] theorem State.hold_sdc (s : State) (c : HostCycle) : (s.hold c).sdc = s.sdc := rfl
@[simp] theorem State.hold_rgw (s : State) (c : HostCycle) : (s.hold c).rgw = s.rgw := rfl
@[simp] theorem State.hold_straps (s : State) (c : HostCycle) : (s.hold c).straps = s.straps := rfl
@[simp] theorem State.hold_inReset (s : State) (c : HostCycle) : (s.hold c).inReset = s.inReset := rfl
@[simp] theorem State.hold_pins (s : State) (c : HostCycle) : (s.hold c).pins = s.pins := rfl
@[simp] theorem State.hold_boot (s : State) (c : HostCycle) : (s.hold c).boot = s.boot := rfl
@[simp] theorem State.hold_work (s : State) (c : HostCycle) : (s.hold c).work = s.work := rfl
@[simp] theorem State.hold_workParity (s : State) (c : HostCycle) : (s.hold c).workParity = s.workParity := rfl
@[simp] theorem State.hold_freeCount (s : State) (c : HostCycle) : (s.hold c).freeCount = s.freeCount := rfl
@[simp] theorem State.hold_pending (s : State) (c : HostCycle) : (s.hold c).pending = s.pending := rfl

@[simp] theorem State.restage_rtu (s : State) (st : HostStage) : (s.restage st).rtu = s.rtu := rfl
@[simp] theorem State.restage_txe (s : State) (st : HostStage) : (s.restage st).txe = s.txe := rfl
@[simp] theorem State.restage_wsc (s : State) (st : HostStage) : (s.restage st).wsc = s.wsc := rfl
@[simp] theorem State.restage_wpa (s : State) (st : HostStage) : (s.restage st).wpa = s.wpa := rfl
@[simp] theorem State.restage_bsc (s : State) (st : HostStage) : (s.restage st).bsc = s.bsc := rfl
@[simp] theorem State.restage_amp (s : State) (st : HostStage) : (s.restage st).amp = s.amp := rfl
@[simp] theorem State.restage_rpu (s : State) (st : HostStage) : (s.restage st).rpu = s.rpu := rfl
@[simp] theorem State.restage_sdc (s : State) (st : HostStage) : (s.restage st).sdc = s.sdc := rfl
@[simp] theorem State.restage_rgw (s : State) (st : HostStage) : (s.restage st).rgw = s.rgw := rfl
@[simp] theorem State.restage_straps (s : State) (st : HostStage) : (s.restage st).straps = s.straps := rfl
@[simp] theorem State.restage_inReset (s : State) (st : HostStage) : (s.restage st).inReset = s.inReset := rfl
@[simp] theorem State.restage_pins (s : State) (st : HostStage) : (s.restage st).pins = s.pins := rfl
@[simp] theorem State.restage_boot (s : State) (st : HostStage) : (s.restage st).boot = s.boot := rfl
@[simp] theorem State.restage_work (s : State) (st : HostStage) : (s.restage st).work = s.work := rfl
@[simp] theorem State.restage_workParity (s : State) (st : HostStage) : (s.restage st).workParity = s.workParity := rfl
@[simp] theorem State.restage_freeCount (s : State) (st : HostStage) : (s.restage st).freeCount = s.freeCount := rfl
@[simp] theorem State.restage_pending (s : State) (st : HostStage) : (s.restage st).pending = s.pending := rfl

@[simp] theorem State.setStage_hbi (s : State) (st : LineStage) : (s.setStage st).hbi = s.hbi := rfl
@[simp] theorem State.setStage_rtu (s : State) (st : LineStage) : (s.setStage st).rtu = s.rtu := rfl
@[simp] theorem State.setStage_txe (s : State) (st : LineStage) :
    (s.setStage st).txe = { s.txe with engine := s.txe.engine.mapActive fun a => { a with stage := st } } := rfl
@[simp] theorem State.setStage_wsc (s : State) (st : LineStage) : (s.setStage st).wsc = s.wsc := rfl
@[simp] theorem State.setStage_wpa (s : State) (st : LineStage) : (s.setStage st).wpa = s.wpa := rfl
@[simp] theorem State.setStage_bsc (s : State) (st : LineStage) : (s.setStage st).bsc = s.bsc := rfl
@[simp] theorem State.setStage_amp (s : State) (st : LineStage) : (s.setStage st).amp = s.amp := rfl
@[simp] theorem State.setStage_rpu (s : State) (st : LineStage) : (s.setStage st).rpu = s.rpu := rfl
@[simp] theorem State.setStage_sdc (s : State) (st : LineStage) : (s.setStage st).sdc = s.sdc := rfl
@[simp] theorem State.setStage_rgw (s : State) (st : LineStage) : (s.setStage st).rgw = s.rgw := rfl
@[simp] theorem State.setStage_straps (s : State) (st : LineStage) : (s.setStage st).straps = s.straps := rfl
@[simp] theorem State.setStage_inReset (s : State) (st : LineStage) : (s.setStage st).inReset = s.inReset := rfl
@[simp] theorem State.setStage_pins (s : State) (st : LineStage) : (s.setStage st).pins = s.pins := rfl
@[simp] theorem State.setStage_boot (s : State) (st : LineStage) : (s.setStage st).boot = s.boot := rfl
@[simp] theorem State.setStage_work (s : State) (st : LineStage) : (s.setStage st).work = s.work := rfl
@[simp] theorem State.setStage_workParity (s : State) (st : LineStage) :
    (s.setStage st).workParity = s.workParity := rfl
@[simp] theorem State.setStage_freeCount (s : State) (st : LineStage) : (s.setStage st).freeCount = s.freeCount := rfl
@[simp] theorem State.setStage_pending (s : State) (st : LineStage) : (s.setStage st).pending = s.pending := rfl

@[simp] theorem State.startAccess_hbi (s : State) (a : WorkAccess) : (s.startAccess a).hbi = s.hbi := rfl
@[simp] theorem State.startAccess_rtu (s : State) (a : WorkAccess) : (s.startAccess a).rtu = s.rtu := rfl
@[simp] theorem State.startAccess_txe (s : State) (a : WorkAccess) : (s.startAccess a).txe = s.txe := rfl
@[simp] theorem State.startAccess_wsc (s : State) (a : WorkAccess) :
    (s.startAccess a).wsc = { s.wsc with access := some a } := rfl
@[simp] theorem State.startAccess_bsc (s : State) (a : WorkAccess) : (s.startAccess a).bsc = s.bsc := rfl
@[simp] theorem State.startAccess_amp (s : State) (a : WorkAccess) : (s.startAccess a).amp = s.amp := rfl
@[simp] theorem State.startAccess_rpu (s : State) (a : WorkAccess) : (s.startAccess a).rpu = s.rpu := rfl
@[simp] theorem State.startAccess_sdc (s : State) (a : WorkAccess) : (s.startAccess a).sdc = s.sdc := rfl
@[simp] theorem State.startAccess_rgw (s : State) (a : WorkAccess) : (s.startAccess a).rgw = s.rgw := rfl
@[simp] theorem State.startAccess_straps (s : State) (a : WorkAccess) : (s.startAccess a).straps = s.straps := rfl
@[simp] theorem State.startAccess_inReset (s : State) (a : WorkAccess) : (s.startAccess a).inReset = s.inReset := rfl
@[simp] theorem State.startAccess_pins (s : State) (a : WorkAccess) : (s.startAccess a).pins = s.pins := rfl
@[simp] theorem State.startAccess_boot (s : State) (a : WorkAccess) : (s.startAccess a).boot = s.boot := rfl
@[simp] theorem State.startAccess_work (s : State) (a : WorkAccess) : (s.startAccess a).work = s.work := rfl
@[simp] theorem State.startAccess_workParity (s : State) (a : WorkAccess) :
    (s.startAccess a).workParity = s.workParity := rfl
@[simp] theorem State.startAccess_freeCount (s : State) (a : WorkAccess) :
    (s.startAccess a).freeCount = s.freeCount := rfl
@[simp] theorem State.startAccess_pending (s : State) (a : WorkAccess) : (s.startAccess a).pending = s.pending := rfl

@[simp] theorem State.stopIdle_hbi (s : State) : (s.stopIdle).hbi = s.hbi := rfl
@[simp] theorem State.stopIdle_rtu (s : State) : (s.stopIdle).rtu = s.rtu := rfl
@[simp] theorem State.stopIdle_txe (s : State) : (s.stopIdle).txe = s.txe := rfl
@[simp] theorem State.stopIdle_wsc (s : State) : (s.stopIdle).wsc = s.wsc := rfl
@[simp] theorem State.stopIdle_wpa (s : State) : (s.stopIdle).wpa = { s.wpa with idle := .stopped } := rfl
@[simp] theorem State.stopIdle_bsc (s : State) : (s.stopIdle).bsc = s.bsc := rfl
@[simp] theorem State.stopIdle_amp (s : State) : (s.stopIdle).amp = s.amp := rfl
@[simp] theorem State.stopIdle_rpu (s : State) : (s.stopIdle).rpu = s.rpu := rfl
@[simp] theorem State.stopIdle_sdc (s : State) : (s.stopIdle).sdc = s.sdc := rfl
@[simp] theorem State.stopIdle_rgw (s : State) : (s.stopIdle).rgw = s.rgw := rfl
@[simp] theorem State.stopIdle_straps (s : State) : (s.stopIdle).straps = s.straps := rfl
@[simp] theorem State.stopIdle_inReset (s : State) : (s.stopIdle).inReset = s.inReset := rfl
@[simp] theorem State.stopIdle_pins (s : State) : (s.stopIdle).pins = s.pins := rfl
@[simp] theorem State.stopIdle_boot (s : State) : (s.stopIdle).boot = s.boot := rfl
@[simp] theorem State.stopIdle_work (s : State) : (s.stopIdle).work = s.work := rfl
@[simp] theorem State.stopIdle_workParity (s : State) : (s.stopIdle).workParity = s.workParity := rfl
@[simp] theorem State.stopIdle_freeCount (s : State) : (s.stopIdle).freeCount = s.freeCount := rfl
@[simp] theorem State.stopIdle_pending (s : State) : (s.stopIdle).pending = s.pending := rfl

@[simp] theorem State.endAccess_hbi (s : State) : (s.endAccess).hbi = s.hbi := rfl
@[simp] theorem State.endAccess_rtu (s : State) : (s.endAccess).rtu = s.rtu := rfl
@[simp] theorem State.endAccess_txe (s : State) : (s.endAccess).txe = s.txe := rfl
@[simp] theorem State.endAccess_wsc (s : State) : (s.endAccess).wsc = { s.wsc with access := none } := rfl
@[simp] theorem State.endAccess_wpa (s : State) : (s.endAccess).wpa = s.wpa := rfl
@[simp] theorem State.endAccess_bsc (s : State) : (s.endAccess).bsc = s.bsc := rfl
@[simp] theorem State.endAccess_amp (s : State) : (s.endAccess).amp = s.amp := rfl
@[simp] theorem State.endAccess_rpu (s : State) : (s.endAccess).rpu = s.rpu := rfl
@[simp] theorem State.endAccess_sdc (s : State) : (s.endAccess).sdc = s.sdc := rfl
@[simp] theorem State.endAccess_rgw (s : State) : (s.endAccess).rgw = s.rgw := rfl
@[simp] theorem State.endAccess_straps (s : State) : (s.endAccess).straps = s.straps := rfl
@[simp] theorem State.endAccess_inReset (s : State) : (s.endAccess).inReset = s.inReset := rfl
@[simp] theorem State.endAccess_pins (s : State) : (s.endAccess).pins = s.pins := rfl
@[simp] theorem State.endAccess_boot (s : State) : (s.endAccess).boot = s.boot := rfl
@[simp] theorem State.endAccess_work (s : State) : (s.endAccess).work = s.work := rfl
@[simp] theorem State.endAccess_workParity (s : State) : (s.endAccess).workParity = s.workParity := rfl
@[simp] theorem State.endAccess_freeCount (s : State) : (s.endAccess).freeCount = s.freeCount := rfl
@[simp] theorem State.endAccess_pending (s : State) : (s.endAccess).pending = s.pending := rfl

@[simp] theorem State.grant_hbi (s : State) (r : Requester) : (s.grant r).hbi = s.hbi := rfl
@[simp] theorem State.grant_rtu (s : State) (r : Requester) : (s.grant r).rtu = s.rtu := rfl
@[simp] theorem State.grant_txe (s : State) (r : Requester) : (s.grant r).txe = s.txe := rfl
@[simp] theorem State.grant_wsc (s : State) (r : Requester) : (s.grant r).wsc = s.wsc := rfl
@[simp] theorem State.grant_bsc (s : State) (r : Requester) : (s.grant r).bsc = s.bsc := rfl
@[simp] theorem State.grant_amp (s : State) (r : Requester) : (s.grant r).amp = s.amp := rfl
@[simp] theorem State.grant_rpu (s : State) (r : Requester) : (s.grant r).rpu = s.rpu := rfl
@[simp] theorem State.grant_sdc (s : State) (r : Requester) : (s.grant r).sdc = s.sdc := rfl
@[simp] theorem State.grant_rgw (s : State) (r : Requester) : (s.grant r).rgw = s.rgw := rfl
@[simp] theorem State.grant_straps (s : State) (r : Requester) : (s.grant r).straps = s.straps := rfl
@[simp] theorem State.grant_inReset (s : State) (r : Requester) : (s.grant r).inReset = s.inReset := rfl
@[simp] theorem State.grant_pins (s : State) (r : Requester) : (s.grant r).pins = s.pins := rfl
@[simp] theorem State.grant_boot (s : State) (r : Requester) : (s.grant r).boot = s.boot := rfl
@[simp] theorem State.grant_work (s : State) (r : Requester) : (s.grant r).work = s.work := rfl
@[simp] theorem State.grant_workParity (s : State) (r : Requester) : (s.grant r).workParity = s.workParity := rfl
@[simp] theorem State.grant_freeCount (s : State) (r : Requester) : (s.grant r).freeCount = s.freeCount := rfl
@[simp] theorem State.grant_pending (s : State) (r : Requester) : (s.grant r).pending = s.pending := rfl

@[simp] theorem State.leave_hbi (s : State) (o : Requester) (forfeit : Bool) : (s.leave o forfeit).hbi = s.hbi := rfl
@[simp] theorem State.leave_rtu (s : State) (o : Requester) (forfeit : Bool) : (s.leave o forfeit).rtu = s.rtu := rfl
@[simp] theorem State.leave_txe (s : State) (o : Requester) (forfeit : Bool) : (s.leave o forfeit).txe = s.txe := rfl
@[simp] theorem State.leave_wsc (s : State) (o : Requester) (forfeit : Bool) : (s.leave o forfeit).wsc = s.wsc := rfl
@[simp] theorem State.leave_bsc (s : State) (o : Requester) (forfeit : Bool) : (s.leave o forfeit).bsc = s.bsc := rfl
@[simp] theorem State.leave_amp (s : State) (o : Requester) (forfeit : Bool) : (s.leave o forfeit).amp = s.amp := rfl
@[simp] theorem State.leave_rpu (s : State) (o : Requester) (forfeit : Bool) : (s.leave o forfeit).rpu = s.rpu := rfl
@[simp] theorem State.leave_sdc (s : State) (o : Requester) (forfeit : Bool) : (s.leave o forfeit).sdc = s.sdc := rfl
@[simp] theorem State.leave_rgw (s : State) (o : Requester) (forfeit : Bool) : (s.leave o forfeit).rgw = s.rgw := rfl
@[simp] theorem State.leave_straps (s : State) (o : Requester) (forfeit : Bool) :
    (s.leave o forfeit).straps = s.straps := rfl
@[simp] theorem State.leave_inReset (s : State) (o : Requester) (forfeit : Bool) :
    (s.leave o forfeit).inReset = s.inReset := rfl
@[simp] theorem State.leave_pins (s : State) (o : Requester) (forfeit : Bool) : (s.leave o forfeit).pins = s.pins := rfl
@[simp] theorem State.leave_boot (s : State) (o : Requester) (forfeit : Bool) : (s.leave o forfeit).boot = s.boot := rfl
@[simp] theorem State.leave_work (s : State) (o : Requester) (forfeit : Bool) : (s.leave o forfeit).work = s.work := rfl
@[simp] theorem State.leave_workParity (s : State) (o : Requester) (forfeit : Bool) :
    (s.leave o forfeit).workParity = s.workParity := rfl
@[simp] theorem State.leave_freeCount (s : State) (o : Requester) (forfeit : Bool) :
    (s.leave o forfeit).freeCount = s.freeCount := rfl
@[simp] theorem State.leave_pending (s : State) (o : Requester) (forfeit : Bool) :
    (s.leave o forfeit).pending = s.pending := rfl

@[simp] theorem State.drive_hbi (s : State) : (s.drive).hbi = s.hbi := rfl
@[simp] theorem State.drive_rtu (s : State) : (s.drive).rtu = s.rtu := rfl
@[simp] theorem State.drive_txe (s : State) : (s.drive).txe = s.txe := rfl
@[simp] theorem State.drive_wsc (s : State) : (s.drive).wsc = s.wsc := rfl
@[simp] theorem State.drive_wpa (s : State) : (s.drive).wpa = s.wpa := rfl
@[simp] theorem State.drive_bsc (s : State) : (s.drive).bsc = s.bsc := rfl
@[simp] theorem State.drive_amp (s : State) : (s.drive).amp = s.amp := rfl
@[simp] theorem State.drive_rpu (s : State) : (s.drive).rpu = s.rpu := rfl
@[simp] theorem State.drive_sdc (s : State) : (s.drive).sdc = s.sdc := rfl
@[simp] theorem State.drive_rgw (s : State) : (s.drive).rgw = s.rgw := rfl
@[simp] theorem State.drive_straps (s : State) : (s.drive).straps = s.straps := rfl
@[simp] theorem State.drive_inReset (s : State) : (s.drive).inReset = s.inReset := rfl
@[simp] theorem State.drive_pins (s : State) :
    (s.drive).pins = { s.pins with
      int := s.intLevel
      agnt := s.agntLevel
      adone := s.amp.cycle.adone
      aerr := s.amp.cycle.aerr
      ad := s.amp.cycle.driven } := rfl
@[simp] theorem State.drive_boot (s : State) : (s.drive).boot = s.boot := rfl
@[simp] theorem State.drive_work (s : State) : (s.drive).work = s.work := rfl
@[simp] theorem State.drive_workParity (s : State) : (s.drive).workParity = s.workParity := rfl
@[simp] theorem State.drive_freeCount (s : State) : (s.drive).freeCount = s.freeCount := rfl
@[simp] theorem State.drive_pending (s : State) : (s.drive).pending = s.pending := rfl

@[simp] theorem State.openIo_hbi (s : State) (c : IoCycle) : (s.openIo c).hbi = s.hbi := rfl
@[simp] theorem State.openIo_rtu (s : State) (c : IoCycle) : (s.openIo c).rtu = s.rtu := rfl
@[simp] theorem State.openIo_txe (s : State) (c : IoCycle) : (s.openIo c).txe = s.txe := rfl
@[simp] theorem State.openIo_wsc (s : State) (c : IoCycle) : (s.openIo c).wsc = s.wsc := rfl
@[simp] theorem State.openIo_wpa (s : State) (c : IoCycle) : (s.openIo c).wpa = s.wpa := rfl
@[simp] theorem State.openIo_bsc (s : State) (c : IoCycle) : (s.openIo c).bsc = s.bsc := rfl
@[simp] theorem State.openIo_amp (s : State) (c : IoCycle) : (s.openIo c).amp = s.amp := rfl
@[simp] theorem State.openIo_rpu (s : State) (c : IoCycle) : (s.openIo c).rpu = s.rpu := rfl
@[simp] theorem State.openIo_sdc (s : State) (c : IoCycle) : (s.openIo c).sdc = s.sdc := rfl
@[simp] theorem State.openIo_rgw (s : State) (c : IoCycle) :
    (s.openIo c).rgw = { s.rgw with index := s.selectedIndex c } := rfl
@[simp] theorem State.openIo_straps (s : State) (c : IoCycle) : (s.openIo c).straps = s.straps := rfl
@[simp] theorem State.openIo_inReset (s : State) (c : IoCycle) : (s.openIo c).inReset = s.inReset := rfl
@[simp] theorem State.openIo_pins (s : State) (c : IoCycle) :
    (s.openIo c).pins = s.openPins .io (wordAddr c.ha) .write true := rfl
@[simp] theorem State.openIo_boot (s : State) (c : IoCycle) : (s.openIo c).boot = s.boot := rfl
@[simp] theorem State.openIo_work (s : State) (c : IoCycle) : (s.openIo c).work = s.work := rfl
@[simp] theorem State.openIo_workParity (s : State) (c : IoCycle) : (s.openIo c).workParity = s.workParity := rfl
@[simp] theorem State.openIo_freeCount (s : State) (c : IoCycle) : (s.openIo c).freeCount = s.freeCount := rfl
@[simp] theorem State.openIo_pending (s : State) (c : IoCycle) : (s.openIo c).pending = s.pending := rfl

@[simp] theorem State.withResult_hbi (s : State) (code : Byte) (r : ResultCode) (arg : Byte) :
    (s.withResult code r arg).hbi = s.hbi := rfl
@[simp] theorem State.withResult_rtu (s : State) (code : Byte) (r : ResultCode) (arg : Byte) :
    (s.withResult code r arg).rtu = s.rtu := rfl
@[simp] theorem State.withResult_txe (s : State) (code : Byte) (r : ResultCode) (arg : Byte) :
    (s.withResult code r arg).txe = s.txe := rfl
@[simp] theorem State.withResult_wsc (s : State) (code : Byte) (r : ResultCode) (arg : Byte) :
    (s.withResult code r arg).wsc = s.wsc := rfl
@[simp] theorem State.withResult_wpa (s : State) (code : Byte) (r : ResultCode) (arg : Byte) :
    (s.withResult code r arg).wpa = s.wpa := rfl
@[simp] theorem State.withResult_bsc (s : State) (code : Byte) (r : ResultCode) (arg : Byte) :
    (s.withResult code r arg).bsc = s.bsc := rfl
@[simp] theorem State.withResult_amp (s : State) (code : Byte) (r : ResultCode) (arg : Byte) :
    (s.withResult code r arg).amp = s.amp := rfl
@[simp] theorem State.withResult_rpu (s : State) (code : Byte) (r : ResultCode) (arg : Byte) :
    (s.withResult code r arg).rpu = s.rpu := rfl
@[simp] theorem State.withResult_sdc (s : State) (code : Byte) (r : ResultCode) (arg : Byte) :
    (s.withResult code r arg).sdc = s.sdc := rfl
@[simp] theorem State.withResult_rgw (s : State) (code : Byte) (r : ResultCode) (arg : Byte) :
    (s.withResult code r arg).rgw = { s.rgw with lastCommand := code, result := r, resultArg := arg } := rfl
@[simp] theorem State.withResult_straps (s : State) (code : Byte) (r : ResultCode) (arg : Byte) :
    (s.withResult code r arg).straps = s.straps := rfl
@[simp] theorem State.withResult_inReset (s : State) (code : Byte) (r : ResultCode) (arg : Byte) :
    (s.withResult code r arg).inReset = s.inReset := rfl
@[simp] theorem State.withResult_pins (s : State) (code : Byte) (r : ResultCode) (arg : Byte) :
    (s.withResult code r arg).pins = s.pins := rfl
@[simp] theorem State.withResult_boot (s : State) (code : Byte) (r : ResultCode) (arg : Byte) :
    (s.withResult code r arg).boot = s.boot := rfl
@[simp] theorem State.withResult_work (s : State) (code : Byte) (r : ResultCode) (arg : Byte) :
    (s.withResult code r arg).work = s.work := rfl
@[simp] theorem State.withResult_workParity (s : State) (code : Byte) (r : ResultCode) (arg : Byte) :
    (s.withResult code r arg).workParity = s.workParity := rfl
@[simp] theorem State.withResult_freeCount (s : State) (code : Byte) (r : ResultCode) (arg : Byte) :
    (s.withResult code r arg).freeCount = s.freeCount := rfl
@[simp] theorem State.withResult_pending (s : State) (code : Byte) (r : ResultCode) (arg : Byte) :
    (s.withResult code r arg).pending = s.pending := rfl

end Sys2Proof.Machine
end

