-- ==== Sys2Proof/Laws/Memory.lean ====
section
/-! SUPPORT. The sparse contents: what a read gives after a write, that every write keeps the one canonical form, and
what a write of the Work Store does to the state. -/

namespace Sys2Proof.Machine

/-! ### Cells -/

/-- A key below every listed key reads as the default. -/
theorem Sparse.read_below {α : Type} [DecidableEq α] (d : α) (cells : List (Nat × α)) (lo a : Nat)
    (h : Sparse.wfFrom d lo cells = true) (ha : a < lo) : Sparse.read d cells a = d := by
  induction cells generalizing lo with
  | nil => rfl
  | cons c rest ih =>
    obtain ⟨k, v⟩ := c
    simp only [Sparse.wfFrom, Bool.and_eq_true, decide_eq_true_eq] at h
    have : k ≠ a := by omega
    simp only [Sparse.read, if_neg this]
    exact ih (k + 1) h.2 (by omega)

/-- The bound of the canonical form may be lowered. -/
theorem Sparse.wfFrom_mono {α : Type} [DecidableEq α] (d : α) (cells : List (Nat × α)) (lo lo' : Nat)
    (h : Sparse.wfFrom d lo cells = true) (hl : lo' ≤ lo) : Sparse.wfFrom d lo' cells = true := by
  cases cells with
  | nil => rfl
  | cons c rest =>
    obtain ⟨k, v⟩ := c
    simp only [Sparse.wfFrom, Bool.and_eq_true, decide_eq_true_eq] at h ⊢
    exact ⟨⟨by omega, h.1.2⟩, h.2⟩

/-- A write keeps the canonical form above a bound at or below its key. -/
theorem Sparse.wfFrom_write {α : Type} [DecidableEq α] (d : α) (cells : List (Nat × α)) (lo a : Nat) (v : α)
    (h : Sparse.wfFrom d lo cells = true) (ha : lo ≤ a) : Sparse.wfFrom d lo (Sparse.write d cells a v) = true := by
  induction cells generalizing lo with
  | nil => by_cases hv : v = d <;> simp [Sparse.write, Sparse.wfFrom, hv, ha]
  | cons c rest ih =>
    obtain ⟨k, w⟩ := c
    have h' := h
    simp only [Sparse.wfFrom, Bool.and_eq_true, decide_eq_true_eq] at h'
    obtain ⟨⟨hk, hw⟩, hr⟩ := h'
    unfold Sparse.write
    split
    · rename_i hlt
      split
      · exact h
      · rename_i hv
        simp [Sparse.wfFrom, ha, hv, hw, hr, Nat.succ_le_of_lt hlt]
    · split
      · rename_i hlt heq
        split
        · exact Sparse.wfFrom_mono d rest (k + 1) lo hr (by omega)
        · rename_i hv
          subst heq
          simp [Sparse.wfFrom, hk, hv, hr]
      · rename_i hlt hne
        simp only [Sparse.wfFrom, Bool.and_eq_true, decide_eq_true_eq]
        exact ⟨⟨hk, hw⟩, ih (k + 1) hr (by omega)⟩

/-- A read after a write: the value written at its key, the old value at every other key. -/
theorem Sparse.read_write {α : Type} [DecidableEq α] (d : α) (cells : List (Nat × α)) (lo a b : Nat) (v : α)
    (h : Sparse.wfFrom d lo cells = true) :
    Sparse.read d (Sparse.write d cells a v) b = if b = a then v else Sparse.read d cells b := by
  induction cells generalizing lo with
  | nil =>
    by_cases hb : b = a
    · by_cases hv : v = d <;> simp [Sparse.write, Sparse.read, hv, hb]
    · by_cases hv : v = d <;> simp [Sparse.write, Sparse.read, hv, hb, Ne.symm hb]
  | cons c rest ih =>
    obtain ⟨k, w⟩ := c
    simp only [Sparse.wfFrom, Bool.and_eq_true, decide_eq_true_eq] at h
    obtain ⟨⟨hk, hw⟩, hr⟩ := h
    unfold Sparse.write
    split
    · rename_i hlt
      have hbelow : Sparse.read d rest a = d := Sparse.read_below d rest (k + 1) a hr (by omega)
      split
      · rename_i hv
        by_cases hb : b = a
        · subst hb
          simp [Sparse.read, hv, hbelow, (show k ≠ b by omega)]
        · simp [hb]
      · by_cases hb : b = a
        · subst hb
          simp [Sparse.read]
        · simp [Sparse.read, hb, Ne.symm hb]
    · split
      · rename_i hlt heq
        subst heq
        have hbelow : Sparse.read d rest a = d := Sparse.read_below d rest (a + 1) a hr (by omega)
        split
        · rename_i hv
          by_cases hb : b = a
          · subst hb
            simp [hv, hbelow]
          · simp [Sparse.read, hb, Ne.symm hb]
        · by_cases hb : b = a
          · subst hb
            simp [Sparse.read]
          · simp [Sparse.read, hb, Ne.symm hb]
      · rename_i hlt hne
        have hi := ih (k + 1) hr
        simp only [Sparse.read]
        by_cases hkb : k = b
        · simp [hkb, (show b ≠ a by omega)]
        · simp [hkb, hi]

/-! ### The stores, the parity bits and the masks -/

/-- A read of a store after a write of it. -/
theorem Memory.read_write (m : List Host.Cell) (a b : Nat) (v : Byte) (h : Memory.wf m = true) :
    Memory.read (Memory.write m a v) b = if b = a then v else Memory.read m b :=
  Sparse.read_write _ m 0 a b v h

/-- A write keeps the canonical form of a store. -/
theorem Memory.wf_write (m : List Host.Cell) (a : Nat) (v : Byte) (h : Memory.wf m = true) :
    Memory.wf (Memory.write m a v) = true :=
  Sparse.wfFrom_write _ m 0 a v h (Nat.zero_le a)

/-- A read of the parity bits after a write of them. -/
theorem ParityBits.read_write (m : List (Nat × Bool)) (a b : Nat) (v : Bool) (h : ParityBits.wf m = true) :
    ParityBits.read (ParityBits.write m a v) b = if b = a then v else ParityBits.read m b :=
  Sparse.read_write _ m 0 a b v h

/-- A write keeps the canonical form of the parity bits. -/
theorem ParityBits.wf_write (m : List (Nat × Bool)) (a : Nat) (v : Bool) (h : ParityBits.wf m = true) :
    ParityBits.wf (ParityBits.write m a v) = true :=
  Sparse.wfFrom_write _ m 0 a v h (Nat.zero_le a)

/-- A read of the masks after a write of them. -/
theorem LineMasks.read_write (m : List (Nat × LineMask)) (a b : Nat) (v : LineMask) (h : LineMasks.wf m = true) :
    LineMasks.read (LineMasks.write m a v) b = if b = a then v else LineMasks.read m b :=
  Sparse.read_write _ m 0 a b v h

/-- A write keeps the canonical form of the masks. -/
theorem LineMasks.wf_write (m : List (Nat × LineMask)) (a : Nat) (v : LineMask) (h : LineMasks.wf m = true) :
    LineMasks.wf (LineMasks.write m a v) = true :=
  Sparse.wfFrom_write _ m 0 a v h (Nat.zero_le a)

/-- Marking keeps the canonical form of the masks, and the range. -/
theorem ByteMap.mark_keeps (m : ByteMap) (off : Offset) (lanes : Lanes) :
    (m.mark off lanes).start = m.start ∧ (m.mark off lanes).lines = m.lines
      ∧ (LineMasks.wf m.masks = true → LineMasks.wf (m.mark off lanes).masks = true) := by
  unfold ByteMap.mark
  split
  · exact ⟨rfl, rfl, fun h => LineMasks.wf_write _ _ _ h⟩
  · exact ⟨rfl, rfl, id⟩

/-! ### Writes of the Work Store -/

/-- A write of the Work Store changes the Work Store only. -/
theorem State.writeWork_butWork (off : Nat) (sel : Nat → Bool) (dat : Nat → Byte) (n : Nat) (s : State) :
    ButWork s (s.writeWork off sel dat n) := by
  unfold ButWork
  induction n with
  | zero => rfl
  | succ n ih =>
    simp only [State.writeWork]
    split
    · generalize s.writeWork off sel dat n = u at ih ⊢
      rw [ih]
      rfl
    · exact ih

/-- A write of the Work Store keeps the canonical form of its bytes and parity bits. -/
theorem State.writeWork_wf (off : Nat) (sel : Nat → Bool) (dat : Nat → Byte) (n : Nat) (s : State)
    (hm : Memory.wf s.work = true) (hp : ParityBits.wf s.workParity = true) :
    Memory.wf (s.writeWork off sel dat n).work = true ∧ ParityBits.wf (s.writeWork off sel dat n).workParity = true := by
  induction n with
  | zero => exact ⟨hm, hp⟩
  | succ n ih =>
    simp only [State.writeWork]
    split
    · refine ⟨Memory.wf_write _ _ _ ih.1, ?_⟩
      simp only [State.writeWorkByte]
      split
      · exact ParityBits.wf_write _ _ _ ih.2
      · exact ih.2
    · exact ih

/-- A write of the Work Store leaves the straps. -/
theorem State.writeWork_straps (off : Nat) (sel : Nat → Bool) (dat : Nat → Byte) (n : Nat) (s : State) :
    (s.writeWork off sel dat n).straps = s.straps := by
  have h := State.writeWork_butWork off sel dat n s
  unfold ButWork at h
  rw [h]

/-- The bytes and parity bits after one byte is written. -/
theorem State.writeWorkByte_read (s : State) (a x : Nat) (b : Byte)
    (hm : Memory.wf s.work = true) (hp : ParityBits.wf s.workParity = true) :
    Memory.read (s.writeWorkByte a b).work x = (if x = a then b else Memory.read s.work x)
      ∧ ParityBits.read (s.writeWorkByte a b).workParity x
          = (if x = a ∧ s.straps.parity = true then parityBit b else ParityBits.read s.workParity x) := by
  refine ⟨Memory.read_write _ _ _ _ hm, ?_⟩
  by_cases hpar : s.straps.parity = true
  · simp [State.writeWorkByte, hpar, ParityBits.read_write _ _ _ _ hp]
  · simp [State.writeWorkByte, hpar]

/-- The parity bit the Work Store Controller writes is the one that makes the count of ones odd (R116). -/
theorem oddParity_iff (b : Byte) (p : Bool) : OddParity b p ↔ p = parityBit b := by
  revert b p
  decide

/-- A byte disagrees with its stored parity bit exactly where the count of ones is even (R117). -/
theorem parityFails_iff (s : State) (a : Nat) :
    s.parityFails a = true ↔ ¬ OddParity (Memory.read s.work a) (ParityBits.read s.workParity a) := by
  rw [oddParity_iff]
  simp [State.parityFails]

/-- Two words with the same four bytes are equal. -/
theorem word_ext (u v : Word) (h : ∀ k : Nat, k < 4 → (u >>> (8 * k)).setWidth 8 = ((v >>> (8 * k)).setWidth 8 : Byte)) :
    u = v := by
  have h0 := h 0 (by omega)
  have h1 := h 1 (by omega)
  have h2 := h 2 (by omega)
  have h3 := h 3 (by omega)
  apply BitVec.eq_of_getLsbD_eq
  intro i hi
  have key : ∀ k : Nat, k < 4 → (u >>> (8 * k)).setWidth 8 = ((v >>> (8 * k)).setWidth 8 : Byte) →
      ∀ j : Nat, j < 8 → u.getLsbD (8 * k + j) = v.getLsbD (8 * k + j) := by
    intro k _ e j hj
    have := congrArg (fun w : Byte => w.getLsbD j) e
    simpa [hj] using this
  have hi' := key (i / 8) (by omega) (h _ (by omega)) (i % 8) (by omega)
  rwa [Nat.div_add_mod] at hi'

/-- Byte `k` of a word of four bytes. -/
theorem getByte_wordOf (f : Nat → Byte) (k : Nat) (h : k < 4) : getByte (wordOf f) k = f k := by
  unfold getByte wordOf
  have hk : k = 0 ∨ k = 1 ∨ k = 2 ∨ k = 3 := by omega
  apply BitVec.eq_of_getLsbD_eq
  intro i hi
  rcases hk with rfl | rfl | rfl | rfl <;>
    simp [hi] <;> grind

/-- The data kept of a cycle: its carried lanes, and 0 on the others (log entry 15). -/
theorem getByte_carriedData (lanes : Lanes) (data : Word) (k : Nat) (h : k < 4) :
    getByte (carriedData lanes data) k = if carries lanes k then getByte data k else 0#8 :=
  getByte_wordOf _ k h

/-- A value of two bytes is its bytes, the higher first. -/
theorem getByte_join2 (v : BitVec 16) : getByte v 1 ++ getByte v 0 = v := by
  apply BitVec.eq_of_getLsbD_eq
  intro i hi
  simp [getByte]
  grind

/-- A value of three bytes is its bytes, the highest first. -/
theorem getByte_join3 (v : BitVec 24) : getByte v 2 ++ getByte v 1 ++ getByte v 0 = v := by
  apply BitVec.eq_of_getLsbD_eq
  intro i hi
  simp [getByte]
  grind

/-- A value of four bytes is its bytes, the highest first. -/
theorem getByte_join4 (v : BitVec 32) : getByte v 3 ++ getByte v 2 ++ getByte v 1 ++ getByte v 0 = v := by
  apply BitVec.eq_of_getLsbD_eq
  intro i hi
  simp [getByte]
  grind

/-- Bit `k` of four levels as lines. -/
theorem lines4_getLsbD (f : Fin 4 → Bool) (k : Fin 4) : (lines4 f).getLsbD k.val = f k := by
  have h : ∀ (a b c d : Bool) (k : Fin 4),
      (BitVec.ofBool d ++ BitVec.ofBool c ++ BitVec.ofBool b ++ BitVec.ofBool a).getLsbD k.val
        = (match k with | 0 => a | 1 => b | 2 => c | 3 => d) := by decide
  unfold lines4
  rw [h]
  match k with
  | 0 => rfl
  | 1 => rfl
  | 2 => rfl
  | 3 => rfl

/-- A lane set given bit by bit. -/
theorem eq_lines4 (f : Fin 4 → Bool) (b : Lanes) (h : ∀ k : Nat, (hk : k < 4) → b.getLsbD k = f ⟨k, hk⟩) :
    b = lines4 f := by
  apply BitVec.eq_of_getLsbD_eq
  intro i hi
  rw [h i hi]
  exact (lines4_getLsbD f ⟨i, hi⟩).symm

/-- The store sizes of Table 6-7. -/
theorem Straps.sizes_eq (st : Straps) :
    st.workSize = 0x200000 * 2 ^ st.wsize.toNat ∧ st.bootSize = 0x200000 * 2 ^ st.bsize.toNat := by
  have h : ∀ c : BitVec 2, Config.storeSize c = 0x200000 * 2 ^ c.toNat := by decide
  exact ⟨h _, h _⟩

/-- What a write of the Work Store writes: the chosen bytes with fresh parity, and no other. -/
theorem State.writeWork_written (off : Nat) (sel : Nat → Bool) (dat : Nat → Byte) (n : Nat) (s : State)
    (hm : Memory.wf s.work = true) (hp : ParityBits.wf s.workParity = true) :
    WorkWritten off n sel dat s (s.writeWork off sel dat n) := by
  induction n with
  | zero =>
    intro a
    rw [if_neg (fun h => by omega)]
    exact ⟨rfl, rfl⟩
  | succ n ih =>
    intro a
    have hwf := State.writeWork_wf off sel dat n s hm hp
    have ha := ih a
    unfold State.writeWork
    by_cases hsel : sel n = true
    · rw [if_pos hsel]
      obtain ⟨hr, hq⟩ := State.writeWorkByte_read (s.writeWork off sel dat n) (off + n) a (dat n) hwf.1 hwf.2
      rw [hr, hq, State.writeWork_straps]
      by_cases hn : a = off + n
      · subst hn
        rw [if_neg (fun h => by omega)] at ha
        rw [if_pos ⟨Nat.le_add_right _ _, by omega, by rw [Nat.add_sub_cancel_left]; exact hsel⟩]
        rw [Nat.add_sub_cancel_left]
        by_cases hpar : s.straps.parity = true
        · simp [hpar, oddParity_iff]
        · simp [hpar, ha.2]
      · have hiff : (off ≤ a ∧ a < off + (n + 1) ∧ sel (a - off) = true)
            ↔ (off ≤ a ∧ a < off + n ∧ sel (a - off) = true) :=
          ⟨fun h => ⟨h.1, by omega, h.2.2⟩, fun h => ⟨h.1, by omega, h.2.2⟩⟩
        simpa only [hiff, hn, false_and, if_false] using ha
    · have hiff : (off ≤ a ∧ a < off + (n + 1) ∧ sel (a - off) = true)
          ↔ (off ≤ a ∧ a < off + n ∧ sel (a - off) = true) :=
        ⟨fun h => ⟨h.1, by
          have : a ≠ off + n := fun e => hsel (by rw [← h.2.2, e, Nat.add_sub_cancel_left])
          omega, h.2.2⟩, fun h => ⟨h.1, by omega, h.2.2⟩⟩
      rw [if_neg hsel]
      simpa only [hiff] using ha

end Sys2Proof.Machine
end

