-- ==== Sys2Proof/Laws/Ops.lean ====
section
/-! SUPPORT. What each shared operation can do, said once: faults handed over, register window writes and commands, the
ends of lines and jobs, the settling of the Work Store port, and the levels of the outputs. -/

namespace Sys2Proof.Machine

/-! ### Faults handed over -/

/-- A fault handed over changes neither the Completion List nor the mask. -/
theorem Rpu.takeFault_keeps (u : Rpu) (f : FaultRecord) :
    (u.takeFault f).completions = u.completions ∧ (u.takeFault f).mask = u.mask := by
  unfold Rpu.takeFault
  repeat' split
  all_goals exact ⟨rfl, rfl⟩

/-- The Fault Queue never holds more than 8 records. -/
theorem Rpu.takeFault_length (u : Rpu) (f : FaultRecord) (h : u.faults.length ≤ 8) :
    (u.takeFault f).faults.length ≤ 8 := by
  unfold Rpu.takeFault
  split
  · rename_i n hn
    split
    · have hne : u.faults ≠ [] := by
        intro e
        simp [e] at hn
      have hpos := List.length_pos_iff.mpr hne
      simp only [List.length_append, List.length_dropLast, List.length_singleton]
      omega
    · split
      · simpa using ‹u.faults.length < 8›
      · exact h
  · simp

/-- A fault taken by an empty queue is its only record. -/
theorem Rpu.takeFault_empty (u : Rpu) (f : FaultRecord) (h : u.faults = []) :
    u.takeFault f = { u with faults := [{ f with repeats := 1#8 }] } := by
  simp [Rpu.takeFault, h]

/-! ### Register window writes and commands -/

/-- A data port write that the part takes and that is the row's runs the row's effect and ends ready. -/
theorem State.dataWrite_takes (s : State) (c : IoCycle) (mine : Byte → Byte → Bool)
    (effect : Byte → Byte → State → State) (i b : Byte) (h : s.TakesWrite c i b) (hm : mine i b = true) :
    s.dataWrite c mine effect = .next ((effect i b (s.openIo c)).answer .readyWrite).drive := by
  obtain ⟨hb, hw⟩ := h
  simp [State.dataWrite, hb, hw, hm, State.done]

/-- A data port write answers a next state only where the part takes it as the row's. -/
theorem State.dataWrite_next (s t : State) (c : IoCycle) (mine : Byte → Byte → Bool)
    (effect : Byte → Byte → State → State) (h : s.dataWrite c mine effect = .next t) :
    ∃ i b, s.TakesWrite c i b ∧ mine i b = true ∧ t = ((effect i b (s.openIo c)).answer .readyWrite).drive := by
  unfold State.dataWrite at h
  split at h
  · cases h
  · rename_i hb
    split at h
    · rename_i i b hw
      split at h
      · rename_i hm
        simp only [State.done, Host.Outcome.next.injEq] at h
        exact ⟨i, b, ⟨by simpa using hb, hw⟩, hm, h.symm⟩
      · cases h
    · cases h

/-- A command that the part takes runs its block's rule, records its code, result and argument, and ends ready. -/
theorem State.command_takes (s : State) (c : IoCycle) (mine : Byte → Bool) (run : State → Reply) (code : Byte)
    (h : s.TakesCommand c code) (hm : mine code = true) :
    s.command c mine run = .next (((run (s.openIo c)).record code).answer .readyWrite).drive := by
  unfold State.command
  exact State.dataWrite_takes s c _ _ 0x04#8 code h (by simp [hm])

/-- A command answers a next state only where the part takes its code. -/
theorem State.command_next (s t : State) (c : IoCycle) (mine : Byte → Bool) (run : State → Reply)
    (h : s.command c mine run = .next t) :
    ∃ code, s.TakesCommand c code ∧ mine code = true
      ∧ t = (((run (s.openIo c)).record code).answer .readyWrite).drive := by
  obtain ⟨i, b, ht, hm, rfl⟩ := State.dataWrite_next s t c _ _ h
  simp only [Bool.and_eq_true, decide_eq_true_eq] at hm
  obtain ⟨rfl, hm⟩ := hm
  exact ⟨b, ht, hm, rfl⟩

/-! ### Host cycles -/

/-- A host memory cycle that carries a lane and arrives on a free bus outside reset proceeds by its route. -/
theorem exec_hostMemoryCycleArrival (c : MemoryCycle) (s : State) (hl : c.lanes ≠ 0#4) (hb : s.busFree = true)
    (hr : s.inReset = false) :
    exec (.hostMemoryCycleArrival c) s
      = ((s.arrive .memory (wordAddr c.ha) c.dir (decide (s.rtu.resolve (wordAddr c.ha) c.dir ≠ .notClaimed))).arriveRoute c
          (s.rtu.resolve (wordAddr c.ha) c.dir)).done := by
  show execHostMemoryCycleArrival c s = _
  unfold execHostMemoryCycleArrival
  rw [if_neg hl, if_neg (by simp [hb]), if_neg (by simp [hr])]

/-- An I/O cycle that carries a lane, arrives on a free bus outside reset and reaches neither port is noted. -/
theorem exec_unclaimedIoCycle_passed (dir : Direction) (c : IoCycle) (s : State) (hl : c.lanes ≠ 0#4)
    (hb : s.busFree = true) (hr : s.inReset = false) (hc : s.claimsIo c = false) :
    exec (.unclaimedIoCycle dir c) s
      = State.done { s.arrive .io (wordAddr c.ha) dir false with hbi := { s.hbi with unclaimed := true } } := by
  show execUnclaimedIoCycle dir c s = _
  unfold execUnclaimedIoCycle
  rw [if_neg hl, if_neg (by simp [hb]), if_neg (by simp [hr]), if_neg (by simp [hc])]
  rfl

/-! ### The outputs of a cycle do not reach the blocks -/

/-- The state with other outputs and another Register Window. -/
def State.withIo (s : State) (p : Pins) (g : Rgw) : State := { s with pins := p, rgw := g }

/-- A line that begins reads neither the outputs nor the Register Window. -/
theorem State.beginLine_withIo (s : State) (p : Pins) (g : Rgw) (a : ActiveJob) :
    (s.withIo p g).beginLine a = (s.beginLine a).withIo p g := by
  unfold State.beginLine
  by_cases hf : a.job.kind = .fill
  · simp only [hf, if_true]
    rfl
  · simp only [hf, if_false]
    have hb : (s.withIo p g).bsc = s.bsc := rfl
    rw [hb]
    by_cases hc : (s.bsc.accessor.isNone && s.bsc.hostRequest.isNone) = true
    · simp only [hc, if_true]
      rfl
    · simp only [hc]
      rfl

/-- A job end reads neither the outputs nor the Register Window. -/
theorem State.jobEnd_withIo (s : State) (p : Pins) (g : Rgw) (a : ActiveJob) (o : JobOutcome) (r : Reason) :
    (s.withIo p g).jobEnd a o r = (s.jobEnd a o r).withIo p g := by
  have hs : ∀ u : State, (u.withIo p g).settleAction a o = (u.settleAction a o).withIo p g := by
    intro u
    unfold State.settleAction
    have hr : (u.withIo p g).rtu = u.rtu := rfl
    rw [hr]
    cases a.job.action with
    | none => rfl
    | some m =>
      by_cases hc : actionResult (some m) o u.rtu.lock = .applied
      · simp only [hc, if_true]
        rfl
      · simp only [hc, if_false]
  have hf : ∀ (u : State) (q : CompletionRecord), (u.withIo p g).offer q = (u.offer q).withIo p g := by
    intro u q
    unfold State.offer
    have hr : (u.withIo p g).rpu = u.rpu := rfl
    rw [hr]
    by_cases hc : u.rpu.completions.length < 8
    · simp only [hc, if_true]
      rfl
    · simp only [hc, if_false]
      rfl
  unfold State.jobEnd State.retire
  have h0 : ({ s.withIo p g with rtu := { (s.withIo p g).rtu with pin := none }
                                 txe := { (s.withIo p g).txe with map := none } } : State)
      = ({ s with rtu := { s.rtu with pin := none }, txe := { s.txe with map := none } } : State).withIo p g := rfl
  rw [h0, hs, hf]
  rfl

/-- The completion of a line reads neither the outputs nor the Register Window. -/
theorem State.completeLine_withIo (s : State) (p : Pins) (g : Rgw) (r : LineResult) :
    (s.withIo p g).completeLine r = (s.completeLine r).withIo p g := by
  unfold State.completeLine
  have he : (s.withIo p g).txe = s.txe := rfl
  rw [he]
  cases s.txe.engine with
  | idle => rfl
  | retiring _ => rfl
  | draining a => exact State.jobEnd_withIo ..
  | running a =>
    by_cases hl : a.limitReached r = true
    · simp only [hl, if_true]
      exact State.jobEnd_withIo ..
    · by_cases ht : a.atLast = true
      · simp only [hl, ht, if_true]
        exact State.jobEnd_withIo ..
      · simp only [hl, ht]
        exact State.beginLine_withIo ..

/-- ENGINE's next access depends on neither the outputs nor the Register Window. -/
theorem State.serveEngine_withIo (n : Nat) (s : State) (p : Pins) (g : Rgw) :
    State.serveEngine n (s.withIo p g) = (State.serveEngine n s).withIo p g := by
  induction n generalizing s with
  | zero => rfl
  | succ n ih =>
    unfold State.serveEngine
    have he : (s.withIo p g).txe = s.txe := rfl
    rw [he]
    cases s.txe.engine.active with
    | none => rfl
    | some a =>
      dsimp only
      cases a.stage with
      | awaitWork d =>
        dsimp only
        by_cases hv : a.job.kind = .verify
        · simp only [hv, if_true]
          rfl
        · by_cases hm : s.txe.lineMask a = BitVec.allOnes 32
          · simp only [hv, hm, if_true, if_false]
            rw [State.completeLine_withIo, ih]
          · simp only [hv, hm, if_false]
            rfl
      | _ => rfl

/-- An owner's next access depends on neither the outputs nor the Register Window. -/
theorem State.serve_withIo (r : Requester) (s : State) (p : Pins) (g : Rgw) :
    (s.withIo p g).serve r = (s.serve r).withIo p g := by
  cases r
  · simp only [State.serve, State.serveHost]
    have he : (s.withIo p g).hbi = s.hbi := rfl
    rw [he]
    cases s.hbi.buffer with
    | cons e rest => rfl
    | nil =>
      cases s.hbi.cycle with
      | none => rfl
      | some c => cases c.dir <;> rfl
  · exact State.serveEngine_withIo ..
  · rfl

/-- A handover depends on neither the outputs nor the Register Window. -/
theorem State.handover_withIo (o : Requester) (f : Bool) (s : State) (p : Pins) (g : Rgw) :
    (s.withIo p g).handover o f = (s.handover o f).withIo p g := by
  unfold State.handover
  have h1 : (s.withIo p g).otherWants o = s.otherWants o := rfl
  have h2 : (s.withIo p g).nextWanting o = s.nextWanting o := rfl
  have h3 : (s.withIo p g).wsc = s.wsc := rfl
  rw [h1, h2, h3]
  by_cases hc : (s.wsc.access.isNone && s.otherWants o) = true
  · simp only [hc, if_true]
    cases s.nextWanting o with
    | none => rfl
    | some r =>
      have hl : (s.withIo p g).leave o f = (s.leave o f).withIo p g := by
        unfold State.leave
        have h4 : (s.withIo p g).wants o = s.wants o := by cases o <;> rfl
        rw [h4]
        rfl
      dsimp only
      rw [hl]
      rfl
  · simp only [hc]
    rfl

/-- The arbiter's work depends on neither the outputs nor the Register Window. -/
theorem State.arbitrate_withIo (n : Nat) (s : State) (p : Pins) (g : Rgw) :
    State.arbitrate n (s.withIo p g) = (State.arbitrate n s).withIo p g := by
  induction n generalizing s with
  | zero => rfl
  | succ n ih =>
    unfold State.arbitrate
    by_cases ha : s.wsc.access.isSome = true
    · have ha' : (s.withIo p g).wsc.access.isSome = true := ha
      rw [if_pos ha, if_pos ha']
    · have ha' : ¬ (s.withIo p g).wsc.access.isSome = true := ha
      rw [if_neg ha, if_neg ha']
      have ho : (s.withIo p g).wpa.owner = s.wpa.owner := rfl
      rw [ho]
      cases s.wpa.owner with
      | none =>
        have hn : (s.withIo p g).nextWanting (s.withIo p g).wpa.lastOwner = s.nextWanting s.wpa.lastOwner := rfl
        simp only [hn]
        cases s.nextWanting s.wpa.lastOwner with
        | none => rfl
        | some r => exact ih (s.grant r)
      | some o =>
        have he : (s.withIo p g).expireOnRelease o = (s.expireOnRelease o).withIo p g := by
          unfold State.expireOnRelease
          have h1 : (s.withIo p g).wpa = s.wpa := rfl
          have h2 : (s.withIo p g).wants o = s.wants o := by cases o <;> rfl
          rw [h1, h2]
          by_cases hc : s.wpa.guarantee = .running 0 ∧ s.wants o = false
          · rw [if_pos hc, if_pos hc]
            rfl
          · rw [if_neg hc, if_neg hc]
        simp only [he]
        generalize s.expireOnRelease o = u
        have h1 : (u.withIo p g).wpa = u.wpa := rfl
        have h2 : (u.withIo p g).wants o = u.wants o := by cases o <;> rfl
        have h3 : (u.withIo p g).otherWants o = u.otherWants o := rfl
        rw [h1, h2, h3]
        by_cases c1 : u.wpa.guarantee = .expired ∧ u.otherWants o = true
        · rw [if_pos c1, if_pos c1, State.handover_withIo, ih]
        rw [if_neg c1, if_neg c1]
        by_cases c2 : u.wants o = true ∧ o ≠ .aux
        · rw [if_pos c2, if_pos c2, show (u.withIo p g).stopIdle = u.stopIdle.withIo p g from rfl, State.serve_withIo, ih]
        rw [if_neg c2, if_neg c2]
        by_cases c3 : u.otherWants o = true ∧ u.wpa.guarantee ≠ .stopped
        · rw [if_pos c3, if_pos c3]
          by_cases c4 : u.wpa.idle ≠ .stopped
          · rw [if_pos c4, if_pos c4]
          rw [if_neg c4, if_neg c4]
          by_cases c5 : u.wpa.idleWindows.get o = 0#8
          · rw [if_pos c5, if_pos c5, State.handover_withIo, ih]
          rw [if_neg c5, if_neg c5]
          rfl
        rw [if_neg c3, if_neg c3]
        rfl

/-- The settling of the port depends on neither the outputs nor the Register Window. -/
theorem State.settle_withIo (s : State) (p : Pins) (g : Rgw) : (s.withIo p g).settle = s.settle.withIo p g :=
  State.arbitrate_withIo 8 s p g

/-! ### What the settling of the port keeps -/

/-- A property that the start of a line, the end of a job and its counting keep holds after a line completes. -/
theorem State.completeLine_keeps (P : State → Prop) (s : State) (r : LineResult) (h : P s)
    (hb : ∀ a, P (s.beginLine a)) (he : ∀ a o q, P (s.jobEnd a o q)) : P (s.completeLine r) := by
  unfold State.completeLine
  repeat' split
  all_goals first | exact he _ _ _ | exact hb _ | exact h

/-- A property that accesses started, stages and completed lines keep holds after ENGINE is served. -/
theorem State.serveEngine_keeps (P : State → Prop) (hs : ∀ s a st, P s → P ((s.startAccess a).setStage st))
    (hc : ∀ s, P s → P (s.completeLine .skipped)) (n : Nat) (s : State) (h : P s) : P (State.serveEngine n s) := by
  induction n generalizing s with
  | zero => exact h
  | succ n ih =>
    unfold State.serveEngine
    repeat' split
    all_goals first | exact hs _ _ _ h | exact ih _ (hc _ h) | exact h

/-- A property that grants, handovers, expiries, the idle timer and the owner's next access keep holds after the arbiter's
work. -/
theorem State.arbitrate_keeps (P : State → Prop) (hg : ∀ s r, P s → P (s.grant r))
    (hh : ∀ s o f, P s → P (s.handover o f)) (he : ∀ s o, P s → P (s.expireOnRelease o))
    (hs : ∀ s r, P s → P (s.serve r))
    (hi : ∀ s t, P s → P { s with wpa := { s.wpa with idle := t } }) (n : Nat) (s : State) (h : P s) :
    P (State.arbitrate n s) := by
  induction n generalizing s with
  | zero => exact h
  | succ n ih =>
    unfold State.arbitrate
    split
    · exact h
    · split
      · split
        · exact h
        · exact ih _ (hg _ _ h)
      · rename_i o ho
        have hx := he s o h
        dsimp only
        repeat' split
        · exact ih _ (hh _ _ _ hx)
        · exact ih _ (hs _ _ (hi _ _ hx))
        · exact hx
        · exact ih _ (hh _ _ _ hx)
        · exact hi _ _ hx
        · exact hi _ _ hx

/-- With an access in progress the port is settled. -/
theorem State.settle_busy (s : State) (h : s.wsc.access ≠ none) : s.settle = s := by
  have : s.wsc.access.isSome = true := by
    cases ha : s.wsc.access with
    | none => exact absurd ha h
    | some _ => rfl
  simp [State.settle, State.arbitrate, this]

/-- What no work of the arbiter changes, whatever requester it serves: the aux port, the select records, the Register
Window, the straps, RESET, the outputs, both stores, and the queue. -/
def State.SameOutside (s t : State) : Prop :=
  t.amp = s.amp ∧ t.sdc = s.sdc ∧ t.rgw = s.rgw ∧ t.straps = s.straps ∧ t.inReset = s.inReset ∧ t.pins = s.pins
    ∧ t.boot = s.boot ∧ t.work = s.work ∧ t.workParity = s.workParity ∧ t.freeCount = s.freeCount
    ∧ t.pending = s.pending

/-- `SameOutside` is transitive. -/
theorem State.SameOutside.trans {s t u : State} (h : s.SameOutside t) (k : t.SameOutside u) : s.SameOutside u := by
  unfold State.SameOutside at *
  simp_all

/-- The start of a line changes nothing outside the engine and the Boot Store port. -/
theorem State.beginLine_outside (s : State) (a : ActiveJob) : s.SameOutside (s.beginLine a) := by
  unfold State.beginLine
  dsimp only
  split
  · exact ⟨rfl, rfl, rfl, rfl, rfl, rfl, rfl, rfl, rfl, rfl, rfl⟩
  · split
    all_goals exact ⟨rfl, rfl, rfl, rfl, rfl, rfl, rfl, rfl, rfl, rfl, rfl⟩

/-- A job end changes nothing outside the engine, the routes and the Completion List. -/
theorem State.jobEnd_outside (s : State) (a : ActiveJob) (o : JobOutcome) (q : Reason) :
    s.SameOutside (s.jobEnd a o q) := by
  have hs : ∀ u : State, u.SameOutside (u.settleAction a o) := by
    intro u
    unfold State.settleAction
    split
    · split
      all_goals exact ⟨rfl, rfl, rfl, rfl, rfl, rfl, rfl, rfl, rfl, rfl, rfl⟩
    · exact ⟨rfl, rfl, rfl, rfl, rfl, rfl, rfl, rfl, rfl, rfl, rfl⟩
  have hf : ∀ (u : State) (r : CompletionRecord), u.SameOutside (u.offer r) := by
    intro u r
    unfold State.offer
    split
    all_goals exact ⟨rfl, rfl, rfl, rfl, rfl, rfl, rfl, rfl, rfl, rfl, rfl⟩
  unfold State.jobEnd State.retire
  exact State.SameOutside.trans (t := { s with rtu := { s.rtu with pin := none }, txe := { s.txe with map := none } })
    ⟨rfl, rfl, rfl, rfl, rfl, rfl, rfl, rfl, rfl, rfl, rfl⟩ ((hs _).trans (hf _ _))

/-- The settling of the port changes nothing outside the blocks it serves. -/
theorem State.settle_outside (s : State) : s.SameOutside s.settle := by
  refine State.arbitrate_keeps (fun t => s.SameOutside t) ?_ ?_ ?_ ?_ ?_ 8 s ?_
  · exact fun t r h => h
  · intro t o f h
    unfold State.handover
    repeat' split
    all_goals exact h
  · intro t o h
    unfold State.expireOnRelease
    split
    all_goals exact h
  · intro t r h
    cases r
    · simp only [State.serve, State.serveHost]
      repeat' split
      all_goals exact h
    · refine State.serveEngine_keeps (fun u => s.SameOutside u) (fun u a st hu => hu) ?_ _ t h
      intro u hu
      exact State.completeLine_keeps (fun v => s.SameOutside v) u _ hu
        (fun a => hu.trans (State.beginLine_outside u a)) (fun a o q => hu.trans (State.jobEnd_outside u a o q))
    · exact h
  · exact fun t i h => h
  · simp [State.SameOutside]

/-- The settling of the port changes no route but its mode. -/
theorem State.settle_routes (s : State) (b : Fin 64) :
    ∃ m, s.settle.rtu.routes[b] = { s.rtu.routes[b] with mode := m } := by
  let P (t : State) : Prop := ∃ m, t.rtu.routes[b] = { s.rtu.routes[b] with mode := m }
  refine State.arbitrate_keeps P ?_ ?_ ?_ ?_ ?_ 8 s ⟨_, rfl⟩
  · exact fun t r h => h
  · intro t o f h
    unfold State.handover
    repeat' split
    all_goals exact h
  · intro t o h
    unfold State.expireOnRelease
    split
    all_goals exact h
  · intro t r h
    cases r
    · simp only [State.serve, State.serveHost]
      repeat' split
      all_goals exact h
    · refine State.serveEngine_keeps P (fun u a st hu => hu) ?_ _ t h
      intro u hu
      have hbl : ∀ a, P (u.beginLine a) := by
        intro a
        unfold State.beginLine
        dsimp only
        repeat' split
        all_goals exact hu
      have key : ∀ (a : ActiveJob) (m : Mode), P { u with rtu := u.rtu.setMode a.job.block m } := by
        intro a m
        obtain ⟨m0, hm⟩ := hu
        by_cases hb : a.job.block = b
        · refine ⟨m, ?_⟩
          have e : (u.rtu.setMode a.job.block m).routes[b] = { u.rtu.routes[b] with mode := m } := by
            subst hb
            simp [Rtu.setMode]
          show (u.rtu.setMode a.job.block m).routes[b] = _
          rw [e, hm]
        · refine ⟨m0, ?_⟩
          have hv : a.job.block.val ≠ b.val := fun e => hb (Fin.ext e)
          simpa [Rtu.setMode, Vector.getElem_set, hv] using hm
      have hje : ∀ a o q, P (u.jobEnd a o q) := by
        intro a o q
        unfold State.jobEnd State.retire State.offer State.settleAction
        dsimp only
        repeat' split
        all_goals first | exact hu | exact key _ _
      exact State.completeLine_keeps P u _ hu hbl hje
    · exact h
  · exact fun t i h => h

/-! ### Wants and the ring -/

/-- Another requester wants the port. -/
theorem State.otherWants_iff (s : State) (o : Requester) :
    s.otherWants o = true ↔ ∃ r, r ≠ o ∧ s.wants r = true := by
  unfold State.otherWants
  constructor
  · intro h
    simp only [Bool.or_eq_true, Bool.and_eq_true, decide_eq_true_eq] at h
    rcases h with (h | h) | h
    all_goals exact ⟨_, Ne.symm h.1, h.2⟩
  · rintro ⟨r, hr, hw⟩
    cases r <;> cases o <;> simp_all

/-- The arbiter finds the first wanting requester in ring order. -/
theorem State.nextWanting_eq (s : State) (last r : Requester) (h : s.FirstInRing last r) :
    s.nextWanting last = some r := by
  obtain ⟨hw, b, a, ho, hb⟩ := h
  have hr : ring last = b ++ r :: a := by
    rw [← ho]
    cases last <;> rfl
  rw [State.nextWanting, hr, List.find?_append, List.find?_eq_none.mpr (by simpa using hb)]
  simp [hw]

/-- With an access in progress the arbiter does nothing, however long it works. -/
theorem State.arbitrate_busy (n : Nat) (s : State) (h : s.wsc.access ≠ none) : s.arbitrate n = s := by
  cases n with
  | zero => rfl
  | succ n =>
    cases ha : s.wsc.access with
    | none => exact absurd ha h
    | some _ => simp [State.arbitrate, ha]

/-! ### Routes and outputs -/

/-- Only a read is routed to the Boot Store. -/
theorem Rtu.resolve_bootRead_read (r : Rtu) (addr : HostAddr) (d : Direction) (off : Offset) (b : Fin 64)
    (h : r.resolve addr d = .bootRead off b) : d = .read := by
  unfold Rtu.resolve at h
  cases d with
  | read => rfl
  | write =>
    exfalso
    dsimp only at h
    revert h
    unfold RouteEntry.route
    repeat' split
    all_goals simp_all

/-- A select record fires exactly where its five conditions hold (R152). -/
theorem SelectRecord.fires_iff (r : SelectRecord) (space : Space) (addr : HostAddr) (dir : Direction) (claimed : Bool) :
    r.fires space addr dir claimed = true ↔ r.enabled = true ∧ r.space = space
      ∧ r.base.toNat ≤ addr.toNat ∧ addr.toNat < r.base.toNat + 2 ^ r.sizeCode.toNat
      ∧ (r.qualifier = .either ∨ (r.qualifier = .reads ∧ dir = .read) ∨ (r.qualifier = .writes ∧ dir = .write))
      ∧ (r.unclaimedOnly = true → claimed = false) := by
  have hq : r.qualifier.matches dir = true ↔
      (r.qualifier = .either ∨ (r.qualifier = .reads ∧ dir = .read) ∨ (r.qualifier = .writes ∧ dir = .write)) := by
    cases r.qualifier <;> cases dir <;> simp [Qualifier.matches]
  simp only [SelectRecord.fires, Bool.and_eq_true, decide_eq_true_eq, hq, and_assoc]
  cases r.unclaimedOnly <;> cases claimed <;> simp

/-- INT is asserted exactly while an unmasked cause holds outside RESET (R149, R150). -/
theorem State.intLevel_iff (t : State) :
    t.intLevel = true ↔ t.inReset = false
      ∧ ((t.rpu.mask.getLsbD 0 = true ∧ t.rpu.completions ≠ []) ∨ (t.rpu.mask.getLsbD 1 = true ∧ t.rpu.faults ≠ [])
        ∨ (t.rpu.mask.getLsbD 2 = true ∧ t.rpu.overflow = true)
        ∨ (t.rpu.mask.getLsbD 3 = true ∧ t.txe.engine = .idle ∧ t.txe.queue = [])) := by
  have key : ∀ (r a b c d : Bool) (m : BitVec 4),
      ((!r && ((BitVec.ofBool d ++ BitVec.ofBool c ++ BitVec.ofBool b ++ BitVec.ofBool a) &&& m != 0#4)) = true ↔
        r = false ∧ ((m.getLsbD 0 = true ∧ a = true) ∨ (m.getLsbD 1 = true ∧ b = true)
          ∨ (m.getLsbD 2 = true ∧ c = true) ∨ (m.getLsbD 3 = true ∧ d = true))) := by
    intro r a b c d
    cases r <;> cases a <;> cases b <;> cases c <;> cases d <;> decide
  have h := key t.inReset (!t.rpu.completions.isEmpty) (!t.rpu.faults.isEmpty) t.rpu.overflow t.txe.quiet t.rpu.mask
  unfold State.intLevel State.causes
  rw [h]
  simp [Txe.quiet]

/-- AGNT is asserted exactly while AUX owns the port with AREQ asserted, or with its access in progress (R109). -/
theorem State.agntLevel_iff (t : State) :
    t.agntLevel = true ↔ t.wpa.owner = some .aux
      ∧ ((t.amp.areq = true ∧ t.inReset = false) ∨ ∃ check, t.wsc.access = some (.aux check)) := by
  unfold State.agntLevel
  rcases t.wpa.owner with _ | _ | _ | _ <;> simp
  rcases t.wsc.access with _ | _ | _ | _ | _ | _ | _ <;> simp

/-! ### A step -/

/-- On an empty queue the part idles. -/
theorem step_idle (s : State) (h : s.pending = []) : step s = .next s := by
  simp [step, h]

end Sys2Proof.Machine
end

