-- ==== Sys2Proof/Laws/PerInstr.lean ====
section
/-! SUPPORT. The family CarriedLanes, said once for each command: a command is well formed exactly when the host cycle it
arrives on, if any, carries a lane. -/

namespace Sys2Proof.Laws.CarriedLanes

/-- A command is well formed exactly when the lanes of its host cycle, if it has one, are not empty. -/
def Statement (i : Instr) : Prop := i.wellFormed = true ↔ ∀ lanes, i.hostLanes = some lanes → lanes ≠ 0#4

/-- A command that arrives on a host cycle of these lanes. -/
theorem of_lanes (i : Instr) (lanes : Lanes) (h : i.hostLanes = some lanes) : Statement i := by
  simp [Statement, Instr.wellFormed, h]

/-- A command that arrives on no host cycle. -/
theorem of_none (i : Instr) (h : i.hostLanes = none) : Statement i := by
  simp [Statement, Instr.wellFormed, h]

theorem hostMemoryCycleArrival (c : MemoryCycle) : Statement (.hostMemoryCycleArrival c) := of_lanes _ _ rfl
theorem unclaimedIoCycle (dir : Direction) (c : IoCycle) : Statement (.unclaimedIoCycle dir c) := of_lanes _ _ rfl
theorem unclaimedCycleEnd : Statement .unclaimedCycleEnd := of_none _ rfl
theorem hostWaitTimeout : Statement .hostWaitTimeout := of_none _ rfl
theorem hostBootReadComplete : Statement .hostBootReadComplete := of_none _ rfl
theorem hostWorkReadComplete : Statement .hostWorkReadComplete := of_none _ rfl
theorem unpostedWriteComplete : Statement .unpostedWriteComplete := of_none _ rfl
theorem drainComplete : Statement .drainComplete := of_none _ rfl
theorem activation : Statement .activation := of_none _ rfl
theorem engineBootReadComplete : Statement .engineBootReadComplete := of_none _ rfl
theorem lineWriteComplete : Statement .lineWriteComplete := of_none _ rfl
theorem verifyReadComplete : Statement .verifyReadComplete := of_none _ rfl
theorem arbiterTick : Statement .arbiterTick := of_none _ rfl
theorem guaranteeExpiry : Statement .guaranteeExpiry := of_none _ rfl
theorem idleExpiry : Statement .idleExpiry := of_none _ rfl
theorem areqAssert : Statement .areqAssert := of_none _ rfl
theorem areqDeassert : Statement .areqDeassert := of_none _ rfl
theorem auxCycleStart (c : AuxRequest) : Statement (.auxCycleStart c) := of_none _ rfl
theorem auxAccessComplete : Statement .auxAccessComplete := of_none _ rfl
theorem astbDrop : Statement .astbDrop := of_none _ rfl
theorem resetAssert : Statement .resetAssert := of_none _ rfl
theorem resetRelease (straps : Straps) : Statement (.resetRelease straps) := of_none _ rfl
theorem indexPortWrite (c : IoCycle) : Statement (.indexPortWrite c) := of_lanes _ _ rfl
theorem stagingWrite (c : IoCycle) : Statement (.stagingWrite c) := of_lanes _ _ rfl
theorem postingEnableWrite (c : IoCycle) : Statement (.postingEnableWrite c) := of_lanes _ _ rfl
theorem hostWaitLimitWrite (c : IoCycle) : Statement (.hostWaitLimitWrite c) := of_lanes _ _ rfl
theorem parityTerminationWrite (c : IoCycle) : Statement (.parityTerminationWrite c) := of_lanes _ _ rfl
theorem parityCheckEnableWrite (c : IoCycle) : Statement (.parityCheckEnableWrite c) := of_lanes _ _ rfl
theorem bootAccessTimeWrite (c : IoCycle) : Statement (.bootAccessTimeWrite c) := of_lanes _ _ rfl
theorem guaranteeWrite (c : IoCycle) : Statement (.guaranteeWrite c) := of_lanes _ _ rfl
theorem idleWindowWrite (c : IoCycle) : Statement (.idleWindowWrite c) := of_lanes _ _ rfl
theorem interruptMaskWrite (c : IoCycle) : Statement (.interruptMaskWrite c) := of_lanes _ _ rfl
theorem registerWrite (c : IoCycle) : Statement (.registerWrite c) := of_lanes _ _ rfl
theorem setWindow (c : IoCycle) : Statement (.setWindow c) := of_lanes _ _ rfl
theorem commitRoute (c : IoCycle) : Statement (.commitRoute c) := of_lanes _ _ rfl
theorem loadRoute (c : IoCycle) : Statement (.loadRoute c) := of_lanes _ _ rfl
theorem lockRouting (c : IoCycle) : Statement (.lockRouting c) := of_lanes _ _ rfl
theorem commitOverlay (c : IoCycle) : Statement (.commitOverlay c) := of_lanes _ _ rfl
theorem loadOverlay (c : IoCycle) : Statement (.loadOverlay c) := of_lanes _ _ rfl
theorem submitJob (c : IoCycle) : Statement (.submitJob c) := of_lanes _ _ rfl
theorem abortActive (c : IoCycle) : Statement (.abortActive c) := of_lanes _ _ rfl
theorem flushQueued (c : IoCycle) : Statement (.flushQueued c) := of_lanes _ _ rfl
theorem engineReset (c : IoCycle) : Statement (.engineReset c) := of_lanes _ _ rfl
theorem monitorStart (c : IoCycle) : Statement (.monitorStart c) := of_lanes _ _ rfl
theorem monitorStop (c : IoCycle) : Statement (.monitorStop c) := of_lanes _ _ rfl
theorem snapshotMonitor (c : IoCycle) : Statement (.snapshotMonitor c) := of_lanes _ _ rfl
theorem setAuxWindow (c : IoCycle) : Statement (.setAuxWindow c) := of_lanes _ _ rfl
theorem popFault (c : IoCycle) : Statement (.popFault c) := of_lanes _ _ rfl
theorem clearOverflow (c : IoCycle) : Statement (.clearOverflow c) := of_lanes _ _ rfl
theorem popCompletion (c : IoCycle) : Statement (.popCompletion c) := of_lanes _ _ rfl
theorem commitSelect (c : IoCycle) : Statement (.commitSelect c) := of_lanes _ _ rfl
theorem loadSelect (c : IoCycle) : Statement (.loadSelect c) := of_lanes _ _ rfl
theorem setPorts (c : IoCycle) : Statement (.setPorts c) := of_lanes _ _ rfl
theorem unknownCommand (c : IoCycle) : Statement (.unknownCommand c) := of_lanes _ _ rfl
theorem astbAssertionDuringAccess : Statement .astbAssertionDuringAccess := of_none _ rfl

end Sys2Proof.Laws.CarriedLanes
end

