-- ==== Sys2Proof/Tests/Slice0.lean ====
section
/-! SUPPORT. Tests: what the check of well-formedness refuses; for every command one step worked out by hand from the
manual's examples and rules; and for every claim with premises, states that meet its premises. -/

namespace Sys2Proof.Tests

open Sys2Proof.Machine

/-! ### Helpers -/

/-- A value of the next state, where there is one. -/
def got {α : Type} (o : Host.Outcome State Fault Refusal) (f : State → α) : Option α :=
  match o with
  | .next t => some (f t)
  | _ => none

/-- A register window write at the port base of PORTSEL = 0: index `i` on lane 0, byte `b` on lane 1. -/
def wr (i b : Byte) : IoCycle := { ha := 0xB5#30, lanes := 0x3#4, data := 0#16 ++ b ++ i }

/-- A command of a code. -/
def cmd (code : Byte) : IoCycle := wr 0x04#8 code

/-- A host memory cycle of four lanes. -/
def mem (addr : BitVec 32) (dir : Direction) (data : Word := 0#32) : MemoryCycle :=
  { ha := addr.extractLsb' 2 30, dir := dir, lanes := 0xF#4, data := data }

/-- The state after reset with staging records and an argument. -/
def staged (arg : Byte) (st : Staging) : State :=
  { State.reset with rgw := { State.reset.rgw with argument := arg, staging := st } }

/-- The state after reset with block 63 in a mode, its bases 0. -/
def mode63 (m : Mode) : State :=
  let e : RouteEntry := { mode := m, bootBase := 0#24, workBase := 0#24, faultAction := .recordAndError }
  { State.reset with rtu := { State.reset.rtu with routes := State.reset.rtu.routes.set 63 e } }

/-- A claimed host cycle at Work or Boot offset 0x100 of block 63. -/
def cyc (dir : Direction) (st : HostStage) : HostCycle :=
  { addr := 0xFFFC0100#32, dir := dir, lanes := 0xF#4, data := 0x44332211#32, offset := 0x100#24, block := 63
    overlay := none, stage := st }

/-- The state after reset with a claimed cycle in progress, its timer running. -/
def holding (c : HostCycle) : State :=
  { State.reset with hbi := { State.reset.hbi with cycle := some c, timerRunning := true, waitLimit := 20#8 } }

/-- The state with a Work Store access in progress, made by its requester as owner. -/
def inAccess (s : State) (a : WorkAccess) : State :=
  { s with wsc := { s.wsc with access := some a }
           wpa := { s.wpa with owner := some a.requester, guarantee := .running 4 } }

/-- A line of one byte repeated. -/
def lineOf (b : Byte) : Line := Vector.ofFn fun _ => b

/-- A job of two lines on block 3. -/
def job (k : JobKind) : Job :=
  { tag := 7#8, kind := k, block := 3, firstLine := 0, lineCount := 2, pattern := 0x11223344#32, limit := 1#8
    action := some .shadow }

/-- The job active at its first line. -/
def active (k : JobKind) (st : LineStage) : ActiveJob :=
  { job := job k, bootSnapshot := 0x1000#24, workSnapshot := 0x2000#24, nextLine := 0, stage := st
    linesDone := 0, skipped := 0, merged := 0, mismatches := 0 }

/-- The state after reset with the job running. -/
def running (k : JobKind) (st : LineStage) : State :=
  { State.reset with
    txe := { queue := [], engine := .running (active k st)
             map := if k = .verify then none else some { start := 0x2000#24, lines := 2, masks := [] } }
    rtu := { State.reset.rtu with pin := some 3 } }

/-- A completion record. -/
def oneDone : CompletionRecord :=
  { tag := 1#8, kind := .copy, block := 0, outcome := .done, reason := .none, linesDone := 1, skipped := 0, merged := 0
    mismatches := 0, actionResult := .applied }

/-- A fault record. -/
def fault (k : FaultKind) (a : HostAddr) (n : Byte) : FaultRecord := { auxFault k 0#24 .read with address := a, repeats := n }

/-- The state while RESET is asserted. -/
def heldInReset : State := { State.reset with inReset := true }

/-! ### Well-formedness -/

theorem test_wellFormed_refuses_memory_cycle_without_lane :
    (Instr.hostMemoryCycleArrival { mem 0#32 .read with lanes := 0#4 }).wellFormed = false := by decide

theorem test_wellFormed_refuses_io_cycle_without_lane :
    (Instr.unclaimedIoCycle .read { wr 0#8 0#8 with lanes := 0#4 }).wellFormed = false := by decide

theorem test_wellFormed_refuses_command_without_lane :
    (Instr.setWindow { cmd 0x15#8 with lanes := 0#4 }).wellFormed = false := by decide

theorem test_wellFormed_takes_aux_cycle_without_lane :
    (Instr.auxCycleStart { aa := 0#22, dir := .read, lanes := 0#4, data := 0#32 }).wellFormed = true := by decide

/-! ### The queue, the stops and the invariants -/

theorem test_queue_front : ({ State.reset with pending := [.arbiterTick, .areqAssert] } : State).pending
    = .arbiterTick :: [.areqAssert] := rfl

theorem test_step_takes_front :
    got (step { State.reset with pending := [.areqAssert, .arbiterTick] }) (fun t => (t.pending, t.wpa.owner, t.pins.agnt))
      = some ([.arbiterTick], some .aux, true) := by decide

theorem test_idle_step : step State.reset = .next State.reset := rfl

theorem test_some_command_completes : ∃ t, exec .areqAssert State.reset = .next t := ⟨_, rfl⟩

theorem test_not_a_write_completion : (Instr.areqAssert ∉ [Instr.drainComplete, .unpostedWriteComplete,
    .lineWriteComplete, .auxAccessComplete, .resetAssert]) ∧ ∀ c, Instr.areqAssert ≠ .snapshotMonitor c := by
  exact ⟨by decide, fun c h => by cases h⟩

theorem test_due_and_not_due : State.reset.Due .areqAssert ∧ ¬ State.reset.Due .areqDeassert
    ∧ (Instr.areqAssert).wellFormed = true ∧ (Instr.areqAssert).hostLanes = none :=
  ⟨rfl, (fun h => by cases h), rfl, rfl⟩

theorem test_cycle_on_busy_bus :
    (Instr.popFault (cmd 0x41#8)).wellFormed = true ∧ (Instr.popFault (cmd 0x41#8)).hostLanes ≠ none
      ∧ (holding (cyc .read .awaitWork)).busFree = false := by decide

theorem test_cycle_that_spells_another :
    ¬ State.reset.Due (.popFault (cmd 0x42#8)) ∧ State.reset.busFree = true := by
  refine ⟨?_, by decide⟩
  rintro ⟨i, b, h, -, hb⟩
  have h' : some (0x04#8, 0x42#8) = some (i, b) := h
  cases h'
  exact absurd hb (by decide)

/-- The state the invariants' premises are shown on: the part after reset with one command waiting. -/
def waiting : State := { State.reset with pending := [.areqAssert] }

theorem test_waiting_steps : ∃ t, step waiting = .next t := ⟨_, rfl⟩

theorem test_waiting_stores : waiting.StoresCanonical := ⟨rfl, rfl, rfl, fun m h => by cases h⟩

theorem test_waiting_queues : waiting.QueuesLegal :=
  ⟨by decide, by decide, by decide, by decide, (fun r h => by cases h), trivial, (fun h => absurd rfl h),
    fun h => by cases h⟩

theorem test_waiting_config : waiting.ConfigValid :=
  ⟨by decide, by decide, by decide, by decide, by decide, by decide, fun h => by cases h⟩

theorem test_waiting_engine : waiting.EngineLegal := ⟨(fun j h => by cases h), rfl, rfl⟩

theorem test_waiting_host : waiting.HostLegal :=
  ⟨fun _ => rfl, ⟨(fun h => by cases h), (fun h => absurd rfl h.1)⟩, ⟨(fun h => absurd rfl h), (fun ⟨_, h, _⟩ => by cases h)⟩,
    ⟨(fun ⟨_, h, _⟩ => by cases h), (fun ⟨_, h, _⟩ => by cases h)⟩, fun _ h => by cases h⟩

theorem test_waiting_boot_port : waiting.BootPortLegal :=
  ⟨fun _ => ⟨rfl, rfl⟩, (fun _ h => by cases h), rfl,
    ⟨(fun ⟨_, h, _⟩ => by cases h), (fun ⟨_, h, _⟩ => by cases h)⟩, fun _ h => by cases h⟩

theorem test_waiting_access : waiting.AccessLegal :=
  ⟨trivial, (fun _ h => by cases h), (fun _ h => by cases h), fun h => by cases h⟩

theorem test_waiting_port : waiting.PortLegal :=
  ⟨(fun _ h => by cases h), ⟨fun _ => rfl, fun _ => rfl⟩, fun _ => rfl, fun _ => rfl, (fun h => by cases h),
    fun _ r => by cases r <;> rfl⟩

theorem test_waiting_consistent : waiting.Consistent :=
  ⟨test_waiting_queues, test_waiting_engine, test_waiting_host, test_waiting_boot_port, test_waiting_access,
    test_waiting_port, (fun _ _ h => by cases h), (fun h => by cases h), rfl, rfl, rfl, rfl, rfl⟩

theorem test_waiting_selects : waiting.SelectsFollow := ⟨rfl, fun h => by cases h⟩

theorem test_lock_premises : (State.reset.TakesCommand (cmd 0x1C#8) 0x1C#8)
    ∧ (∃ t, exec (.resetRelease resetStraps) heldInReset = .next t)
    ∧ ∃ t, exec .areqAssert { State.reset with rtu := { State.reset.rtu with lock := true } } = .next t :=
  ⟨⟨rfl, rfl⟩, ⟨_, rfl⟩, ⟨_, rfl⟩⟩

/-! ### The register window -/

/-- The codes of Table 11-6, the lowest and highest codes, and an unassigned one. -/
def codes : List Byte := [0x00#8, 0x11#8, 0x12#8, 0x13#8, 0x14#8, 0x15#8, 0x1C#8, 0x21#8, 0x22#8, 0x23#8, 0x31#8, 0x32#8,
  0x33#8, 0x3E#8, 0x41#8, 0x42#8, 0x43#8, 0x51#8, 0x52#8, 0x53#8, 0x61#8, 0xFF#8]

theorem test_every_code_is_taken :
    ∀ code ∈ codes, State.reset.busFree = true ∧ State.reset.dataPortWrite (cmd code) = some (0x04#8, code) := by decide

/-- The settings, the bounds of the staging ranges, the argument, and one index of each class a write leaves. -/
def indexes : List Byte := [0x18#8, 0x19#8, 0x1A#8, 0x1B#8, 0x1C#8, 0x1D#8, 0x1E#8, 0x1F#8, 0x20#8, 0x21#8, 0x22#8, 0x23#8,
  0x28#8, 0x38#8, 0x40#8, 0x42#8, 0x49#8, 0x50#8, 0x5C#8, 0x60#8, 0x64#8, 0x68#8, 0x6D#8, 0x70#8, 0x71#8, 0x05#8, 0x14#8,
  0x06#8, 0x08#8, 0x80#8, 0x02#8, 0x00#8, 0xA0#8, 0xFF#8]

theorem test_every_index_is_written :
    ∀ i ∈ indexes, State.reset.busFree = true ∧ State.reset.dataPortWrite (wr i 1#8) = some (i, 1#8) := by decide

theorem test_index_classes :
    [0x28#8, 0x42#8, 0x71#8, 0x05#8, 0x14#8, 0x06#8, 0x08#8, 0x80#8, 0x02#8, 0x00#8, 0xA0#8].map indexClass
      = [.staging, .staging, .staging, .argument, .unimplemented, .result, .status, .view, .strap, .identification,
          .monitor] := by decide

theorem test_index_port_premises :
    let c : IoCycle := { wr 0x9D#8 0#8 with lanes := 0x1#4 }
    State.reset.busFree = true ∧ State.reset.inReset = false ∧ State.reset.reachesIndex c = true
      ∧ State.reset.reachesData c = false ∧ carries c.lanes (indexLane State.reset.rgw.portBase) = true := by decide

theorem test_index_port_write :
    got (exec (.indexPortWrite { wr 0x9D#8 0#8 with lanes := 0x1#4 }) State.reset) (fun t => (t.rgw.index, t.pins.answer))
      = some (0x9D#8, some { busError := false, data := none }) := by decide

theorem test_io_cycle_premises :
    State.reset.claimsIo { ha := 0xB5#30, lanes := 0x4#4, data := 0#32 } = false
      ∧ State.reset.claimsIo { ha := 0xB4#30, lanes := 0xF#4, data := 0#32 } = false
      ∧ State.reset.claimsIo { ha := 0xB5#30, lanes := 0x2#4, data := 0#32 } = true := by decide

theorem test_port_read_returns_index_register_and_ones :
    got (exec (.unclaimedIoCycle .read { ha := 0xB5#30, lanes := 0x7#4, data := 0#32 }) State.reset)
        (fun t => t.pins.answer.bind fun a => a.data.map (·.toList))
      = some (some [some 0x00#8, some 0xA6#8, some 0xFF#8, none]) := by decide

theorem test_strap_register : (State.reset.readRegister 0x02#8, State.reset.readRegister 0x03#8) = (0x4D#8, 0x01#8) := by
  decide

theorem test_read_out_premises :
    (State.reset.txe.engine = .idle ∧ (running .copy .bootRead).txe.engine = .running (active .copy .bootRead)
      ∧ (active .copy .bootRead).linesDone ≤ 8192) ∧ indexClass 0x71#8 = .staging ∧ indexClass 0x9E#8 = .unimplemented
      ∧ (State.reset.wpa.snapshot.aux, 0xB2#8) ∈ [(State.reset.wpa.snapshot.hostPath, 0xA0#8),
        (State.reset.wpa.snapshot.engine, 0xA9#8), (State.reset.wpa.snapshot.aux, 0xB2#8)] := by decide

theorem test_view_premises : State.reset.rpu.faults = [] ∧ State.reset.rpu.completions = []
    ∧ ∃ s : State, s.rpu.faults = [fault .auxRange 4#32 1#8] ∧ s.rpu.completions = [oneDone] :=
  ⟨rfl, rfl, { State.reset with rpu := { State.reset.rpu with faults := [fault .auxRange 4#32 1#8], completions := [oneDone] } },
    rfl, rfl⟩

theorem test_fault_view :
    let s : State := { State.reset with rpu := { State.reset.rpu with
      faults := [{ auxFault .auxRange 0x340000#24 .read with repeats := 2#8 }] } }
    [0x80#8, 0x81#8, 0x82#8, 0x85#8, 0x87#8, 0x8F#8].map s.readRegister = [0x03#8, 6#8, 3#8, 0x34#8, 1#8, 2#8] := by decide

theorem test_staging_write :
    got (exec (.stagingWrite (wr 0x42#8 0xFF#8)) State.reset) (fun t => (t.rgw.staging.select.sizeCode, t.readRegister 0x42#8))
      = some (0x1F#5, 0x1F#8) := by decide

theorem test_posting_enable_write :
    got (exec (.postingEnableWrite (wr 0x18#8 0#8)) State.reset) (fun t => t.hbi.postingEnable) = some false := by decide

theorem test_host_wait_limit_write :
    got (exec (.hostWaitLimitWrite (wr 0x19#8 20#8)) State.reset) (fun t => t.hbi.waitLimit) = some 20#8 := by decide

theorem test_parity_termination_write :
    got (exec (.parityTerminationWrite (wr 0x1A#8 1#8)) State.reset) (fun t => t.hbi.parityTermination) = some true := by
  decide

theorem test_parity_check_enable_write :
    got (exec (.parityCheckEnableWrite (wr 0x1B#8 1#8)) State.reset) (fun t => t.wsc.parityCheck) = some true := by decide

theorem test_boot_access_time_write :
    got (exec (.bootAccessTimeWrite (wr 0x1C#8 8#8)) State.reset) (fun t => t.bsc.accessTime) = some 7#3 := by decide

theorem test_interrupt_mask_write :
    got (exec (.interruptMaskWrite (wr 0x1D#8 0xF8#8)) State.reset) (fun t => (t.rpu.mask, t.pins.int))
      = some (0x8#4, true) := by decide

theorem test_guarantee_write :
    got (exec (.guaranteeWrite (wr 0x20#8 40#8)) State.reset) (fun t => t.wpa.guarantees)
      = some { hostPath := 16#8, engine := 8#8, aux := 40#8 } := by decide

theorem test_idle_window_write :
    got (exec (.idleWindowWrite (wr 0x21#8 0#8)) State.reset) (fun t => t.wpa.idleWindows)
      = some { hostPath := 0#8, engine := 2#8, aux := 8#8 } := by decide

theorem test_register_write :
    got (exec (.registerWrite (wr 0x05#8 63#8)) State.reset) (fun t => t.rgw.argument) = some 63#8 := by decide

/-! ### Commands -/

theorem test_set_window :
    got (exec (.setWindow (cmd 0x15#8)) (staged 0#8 { zeroStaging with window := { base := 0x80000000#32, enable := 1#8 } }))
        (fun t => (t.rtu.windowBase, t.rtu.windowEnable, t.rgw.result)) = some (0x80000000#32, true, .ok) := by decide

theorem test_set_window_bad_base :
    got (exec (.setWindow (cmd 0x15#8)) (staged 0#8 { zeroStaging with window := { base := 0x80000100#32, enable := 1#8 } }))
        (fun t => (t.rtu.windowBase, t.rgw.result)) = some (0xFF000000#32, .badField) := by decide

theorem test_commit_route_last_entry :
    got (exec (.commitRoute (cmd 0x11#8)) (staged 63#8 { zeroStaging with
        route := { mode := 3#8, bootBase := 0x7C0000#24, workBase := 0x3C0000#24, faultAction := 2#8 } }))
      (fun t => (t.rtu.routes[63], t.rgw.result))
      = some ({ mode := .shadow, bootBase := 0x7C0000#24, workBase := 0x3C0000#24, faultAction := .recordAndError }, .ok) := by
  decide

theorem test_commit_route_refusals :
    let good := { zeroStaging with route := { mode := 3#8, bootBase := 0#24, workBase := 0#24, faultAction := 2#8 } }
    let bad := { zeroStaging with route := { mode := 6#8, bootBase := 0#24, workBase := 0#24, faultAction := 2#8 } }
    let pinned : State := { staged 3#8 good with rtu := { State.reset.rtu with pin := some 3 } }
    let locked : State := { staged 3#8 good with rtu := { State.reset.rtu with pin := some 3, lock := true } }
    [got (exec (.commitRoute (cmd 0x11#8)) (staged 64#8 good)) (fun t => t.rgw.result),
      got (exec (.commitRoute (cmd 0x11#8)) locked) (fun t => t.rgw.result),
      got (exec (.commitRoute (cmd 0x11#8)) pinned) (fun t => t.rgw.result),
      got (exec (.commitRoute (cmd 0x11#8)) (staged 63#8 bad)) (fun t => t.rgw.result)]
      = [some .badIndex, some .locked, some .pinned, some .badField] := by decide

theorem test_load_route :
    got (exec (.loadRoute (cmd 0x12#8)) (staged 63#8 zeroStaging)) (fun t => (t.rgw.staging.route, t.rgw.result))
      = some ({ mode := 1#8, bootBase := 0x7C0000#24, workBase := 0x3C0000#24, faultAction := 1#8 }, .ok) := by decide

theorem test_lock_routing :
    got (exec (.lockRouting (cmd 0x1C#8)) State.reset) (fun t => (t.rtu.lock, t.rgw.result)) = some (true, .ok) := by decide

theorem test_commit_overlay_bounds :
    let good := { zeroStaging with overlay := { enabled := 1#8, hostPage := 4095#16, workPage := 0x3FF000#24, scope := 1#8
                                                hits := 9#16 } }
    let bad := { zeroStaging with overlay := { enabled := 1#8, hostPage := 4096#16, workPage := 0#24, scope := 1#8
                                               hits := 0#16 } }
    [got (exec (.commitOverlay (cmd 0x13#8)) (staged 15#8 good)) (fun t => (t.rtu.overlays[15], t.rgw.result)),
      got (exec (.commitOverlay (cmd 0x13#8)) (staged 15#8 bad)) (fun t => (t.rtu.overlays[15], t.rgw.result)),
      got (exec (.commitOverlay (cmd 0x13#8)) (staged 16#8 good)) (fun t => (t.rtu.overlays[15], t.rgw.result))]
      = [some ({ enabled := true, hostPage := 4095#12, workPage := 0x3FF000#24, scope := .readsWrites, hits := 0#16 }, .ok),
          some (defaultOverlay, .badField), some (defaultOverlay, .badIndex)] := by decide

theorem test_load_overlay :
    got (exec (.loadOverlay (cmd 0x14#8)) (staged 15#8 zeroStaging)) (fun t => (t.rgw.staging.overlay, t.rgw.result))
      = some ({ enabled := 0#8, hostPage := 0#16, workPage := 0#24, scope := 0#8, hits := 0#16 }, .ok) := by decide

theorem test_submit_job_bounds :
    let j (first count : BitVec 16) : Staging := { zeroStaging with job :=
      { tag := 5#8, kind := 1#8, block := 63#8, firstLine := first, lineCount := count, pattern := 0#32, limit := 0#8
        action := 6#8 } }
    [got (exec (.submitJob (cmd 0x31#8)) (staged 0#8 (j 8191#16 1#16))) (fun t => (t.txe.queue.map Job.action, t.rgw.result)),
      got (exec (.submitJob (cmd 0x31#8)) (staged 0#8 (j 1#16 8192#16))) (fun t => (t.txe.queue.map Job.action, t.rgw.result))]
      = [some ([some .closed], .ok), some ([], .badField)] := by decide

theorem test_submit_job_full :
    got (exec (.submitJob (cmd 0x31#8)) { State.reset with txe := { State.reset.txe with queue := List.replicate 8 (job .copy) } })
      (fun t => t.rgw.result) = some .queueFull := by decide

theorem test_abort_active :
    got (exec (.abortActive (cmd 0x32#8)) (running .copy .bootRead)) (fun t => (t.txe.engine.code, t.rgw.result))
      = some (2#8, .ok) := by decide

theorem test_flush_queued :
    got (exec (.flushQueued (cmd 0x33#8)) { State.reset with txe := { State.reset.txe with queue := [job .copy, job .fill] } })
      (fun t => (t.txe.queue, t.rgw.result, t.rgw.resultArg)) = some ([], .ok, 2#8) := by decide

theorem test_engine_reset :
    got (exec (.engineReset (cmd 0x3E#8)) (inAccess (running .copy .workWrite) (.lineWrite 0x2000#24 (lineOf 1#8) 0#32 false)))
      (fun t => (t.txe.engine, t.rtu.pin, t.txe.map, t.wpa.owner, t.rgw.result))
      = some (.idle, none, none, some .engine, .ok) := by decide

theorem test_monitor_start :
    got (exec (.monitorStart (cmd 0x51#8)) State.reset) (fun t => (t.wpa.counting, t.rgw.result)) = some (true, .ok) := by
  decide

theorem test_monitor_stop :
    got (exec (.monitorStop (cmd 0x52#8)) { State.reset with wpa := { State.reset.wpa with counting := true } })
      (fun t => (t.wpa.counting, t.rgw.result)) = some (false, .ok) := by decide

theorem test_snapshot_monitor :
    got (exec (.snapshotMonitor (cmd 0x53#8)) { State.reset with wpa := { State.reset.wpa with
        live := { zeroMonitor with aux := { zeroCounters with waitUnits := 9#24 } } } })
      (fun t => (t.wpa.live, t.wpa.snapshot.aux.waitUnits, t.rgw.result)) = some (zeroMonitor, 9#24, .ok) := by decide

theorem test_set_aux_window_bounds :
    let w (limit : Offset) : Staging := { zeroStaging with aux := { base := 0x300000#24, limit := limit } }
    [got (exec (.setAuxWindow (cmd 0x23#8)) (staged 0#8 (w 0x3FF000#24))) (fun t => (t.amp.windowBase, t.rgw.result)),
      got (exec (.setAuxWindow (cmd 0x23#8)) (staged 0#8 (w 0x400000#24))) (fun t => (t.amp.windowBase, t.rgw.result))]
      = [some (0x300000#24, .ok), some (0#24, .badField)] := by decide

theorem test_pop_fault :
    got (exec (.popFault (cmd 0x41#8)) { State.reset with rpu := { State.reset.rpu with
        faults := [fault .auxRange 0#32 1#8, fault .auxRange 4#32 1#8] } })
      (fun t => (t.rpu.faults, t.rgw.result)) = some ([fault .auxRange 4#32 1#8], .ok) := by decide

theorem test_clear_overflow :
    got (exec (.clearOverflow (cmd 0x43#8)) { State.reset with rpu := { State.reset.rpu with overflow := true, lost := 2#8 } })
      (fun t => (t.rpu.overflow, t.rpu.lost, t.rgw.result)) = some (false, 0#8, .ok) := by decide

theorem test_pop_completion_pulls :
    got (exec (.popCompletion (cmd 0x42#8)) { State.reset with
        txe := { State.reset.txe with engine := .retiring { oneDone with tag := 9#8 } }
        rpu := { State.reset.rpu with completions := List.replicate 8 oneDone } })
      (fun t => (t.rpu.completions.map CompletionRecord.tag, t.txe.engine, t.rgw.result))
      = some ([1#8, 1#8, 1#8, 1#8, 1#8, 1#8, 1#8, 9#8], .idle, .ok) := by decide

theorem test_pop_empty :
    [got (exec (.popCompletion (cmd 0x42#8)) State.reset) (fun t => t.rgw.result),
      got (exec (.popFault (cmd 0x41#8)) State.reset) (fun t => t.rgw.result)] = [some .empty, some .empty] := by decide

theorem test_commit_select_bounds :
    let w (code : BitVec 5) (space : Byte) (base : HostAddr) : Staging := { zeroStaging with select :=
      { enabled := 1#8, space := space, sizeCode := code, base := base, qualifier := 2#8, polarity := 0#8
        unclaimedOnly := 1#8 } }
    let res (arg : Byte) (st : Staging) : Option (BitVec 5 × ResultCode) :=
      got (exec (.commitSelect (cmd 0x21#8)) (staged arg st)) fun t => (t.sdc.records[3].sizeCode, t.rgw.result)
    [res 3#8 (w 24#5 0#8 0x01000000#32), res 3#8 (w 12#5 1#8 0xF000#32), res 3#8 (w 13#5 1#8 0#32),
      res 3#8 (w 4#5 1#8 0x10000#32), res 4#8 (w 4#5 0#8 0#32)]
      = [some (24#5, .ok), some (12#5, .ok), some (4#5, .badField), some (4#5, .badField), some (4#5, .badIndex)] := by
  decide

theorem test_load_select :
    got (exec (.loadSelect (cmd 0x22#8)) (staged 3#8 zeroStaging)) (fun t => (t.rgw.staging.select, t.rgw.result))
      = some ({ enabled := 0#8, space := 0#8, sizeCode := 4#5, base := 0#32, qualifier := 2#8, polarity := 0#8
                unclaimedOnly := 0#8 }, .ok) := by decide

theorem test_set_ports_bounds :
    let res (p : BitVec 16) : Option (BitVec 16 × ResultCode) :=
      got (exec (.setPorts (cmd 0x61#8)) (staged 0#8 { zeroStaging with ports := p })) fun t => (t.rgw.portBase, t.rgw.result)
    [res 0x100#16, res 0xFFE#16, res 0xFE#16, res 0x1000#16, res 0x2D5#16]
      = [some (0x100#16, .ok), some (0xFFE#16, .ok), some (0x2D4#16, .badField), some (0x2D4#16, .badField),
          some (0x2D4#16, .badField)] := by decide

theorem test_unknown_command :
    got (exec (.unknownCommand (cmd 0x00#8)) State.reset) (fun t => (t.rgw.lastCommand, t.rgw.result, t.rgw.resultArg))
      = some (0x00#8, .unknownCommand, 0#8) := by decide

/-! ### Host cycles -/

theorem test_route_premises :
    ¬ (State.reset.rtu.windowBase.toNat ≤ (0xFEFFFFFC#32).toNat)
      ∧ State.reset.rtu.windowBase.toNat ≤ (0xFF000000#32).toNat
      ∧ (0xFFFFFFFC#32).toNat < State.reset.rtu.windowBase.toNat + 0x1000000
      ∧ (mode63 .closed).rtu.routes[63].mode = .closed
      ∧ (∀ i : Fin 16, State.reset.rtu.overlays[i].enabled = false) := by decide

/-- Two overlay entries that name page 4095, of which entry 0 is lower (Table 2-5). -/
def overlaid : State :=
  let o (work : Offset) (sc : Scope) : OverlayEntry :=
    { enabled := true, hostPage := 4095#12, workPage := work, scope := sc, hits := 0#16 }
  let s := mode63 .shadow
  { s with rtu := { s.rtu with
      overlays := (s.rtu.overlays.set 0 (o 0x200000#24 .reads)).set 3 (o 0x210000#24 .readsWrites) } }

theorem test_lowest_overlay_applies :
    (overlaid.rtu.resolve 0xFFFFF010#32 .read, overlaid.rtu.resolve 0xFFFFF010#32 .write)
      = (.workRead 0x200010#24 63 (some 0), .discard 63 .recordAndError) := by decide

theorem test_overlay_premises :
    (overlaid.rtu.overlays[0].enabled, overlaid.rtu.overlays[0].hostPage.toNat, (0xFFFFF010 - 0xFF000000) / 0x1000)
      = (true, 4095, 4095) := by decide

theorem test_boot_read_arrival :
    got (exec (.hostMemoryCycleArrival (mem 0xFFFC0100#32 .read)) State.reset)
        (fun t => (t.hbi.cycle.map fun c => (c.stage, c.offset), t.bsc.accessor.map BootAccess.durationNs))
      = some (some (.bootAccess, 0x7C0100#24), some 400) := by decide

theorem test_arrival_premises :
    State.reset.busFree = true ∧ (mem 0xFFFC0100#32 .read).lanes ≠ 0#4 ∧ State.reset.inReset = false
      ∧ State.reset.rtu.resolve 0xFFFC0100#32 .read = .bootRead 0x7C0100#24 63
      ∧ State.reset.rtu.resolve 0xFF000000#32 .read = .notClaimed
      ∧ (mode63 .boot).rtu.resolve 0xFFFC0100#32 .write = .discard 63 .recordAndError
      ∧ (mode63 .closed).rtu.resolve 0xFFFC0100#32 .read = .closed 63 .recordAndError
      ∧ (mode63 .live).rtu.resolve 0xFFFC0100#32 .read = .workRead 0x100#24 63 none
      ∧ (mode63 .live).rtu.resolve 0xFFFC0100#32 .write = .workWrite 0x100#24 63 none
      ∧ (mode63 .live).hbi.postingEnable = true := by decide

theorem test_boot_port_busy_premise :
    ({ State.reset with bsc := State.reset.bsc.startEngine 0#24 } : State).bsc.accessor ≠ none := by decide

theorem test_reset_arrival_premises : heldInReset.busFree = true ∧ heldInReset.inReset = true := by decide

theorem test_closed_read_is_refused :
    got (exec (.hostMemoryCycleArrival (mem 0xFFFC0100#32 .read)) (mode63 .closed))
        (fun t => (t.pins.answer.map HostAnswer.busError, t.rpu.faults.map FaultRecord.kind))
      = some (some true, [.closedAccess]) := by decide

/-- A record that selects 16 bytes of I/O writes at 0x300, unclaimed only, active high. -/
def selects : Sdc :=
  { records := State.reset.sdc.records.set 1 { enabled := true, space := .io, sizeCode := 4#5, base := 0x300#32
                                               qualifier := .writes, polarity := .activeHigh, unclaimedOnly := true } }

theorem test_select_premises :
    let r := selects.records[1]
    (r.enabled = true ∧ r.space = .io ∧ r.base.toNat ≤ (0x300#32).toNat ∧ r.qualifier = .writes)
      ∧ (0x30F#32).toNat < r.base.toNat + 2 ^ r.sizeCode.toNat ∧ ¬ (0x310#32).toNat < r.base.toNat + 2 ^ r.sizeCode.toNat := by
  decide

theorem test_select_decision :
    [selects.cycleLevels .io 0x300#32 .write false, selects.cycleLevels .io 0x30C#32 .write false,
      selects.cycleLevels .io 0x310#32 .write false, selects.cycleLevels .io 0x300#32 .read false,
      selects.cycleLevels .io 0x300#32 .write true, selects.cycleLevels .memory 0x300#32 .write false, selects.idleLevels]
      = [0xF#4, 0xF#4, 0xD#4, 0xD#4, 0xD#4, 0xD#4, 0xD#4] := by decide

theorem test_unclaimed_cycle_is_noted_and_ends :
    (got (exec (.hostMemoryCycleArrival (mem 0x1000#32 .read)) State.reset) (fun t => t.hbi.unclaimed),
      got (exec .unclaimedCycleEnd { State.reset with hbi := { State.reset.hbi with unclaimed := true } })
        (fun t => t.hbi.unclaimed)) = (some true, some false) := by decide

/-- One entry of the Write Post Buffer. -/
def entry : PostEntry := { offset := 0x100#24, lanes := 0x3#4, data := 0x0000BBAA#32 }

/-- The state with some entries held. -/
def posted (s : State) (n : Nat) : State := { s with hbi := { s.hbi with buffer := List.replicate n entry } }

theorem test_posting_bounds :
    let res (n : Nat) : Option (Nat × Option HostStage) :=
      got (exec (.hostMemoryCycleArrival (mem 0xFFFC0100#32 .write)) (posted (mode63 .live) n))
        fun t => (t.hbi.buffer.length, t.hbi.cycle.map HostCycle.stage)
    [res 3, res 4] = [some (4, none), some (4, some .awaitSlot)] := by decide

theorem test_work_read_waits_for_buffer :
    let res (n : Nat) : Option (Option HostStage × Option WorkAccess) :=
      got (exec (.hostMemoryCycleArrival (mem 0xFFFC0100#32 .read)) (posted (mode63 .live) n))
        fun t => (t.hbi.cycle.map HostCycle.stage, t.wsc.access)
    [res 0, res 1] = [some (some .workAccess, some (.hostRead false)), some (some .awaitDrain, some .drain)] := by decide

theorem test_timeout_premises : ∀ p ∈ [(HostStage.awaitBoot, Awaited.bootPort), (.awaitDrain, .postDrain),
    (.awaitWork, .workPort), (.awaitSlot, .postSlot)],
    (holding (cyc .read p.1)).hbi.cycle = some (cyc .read p.1) ∧ (holding (cyc .read p.1)).hbi.timerRunning = true := by
  decide

theorem test_timeout_in_await_drain :
    got (exec .hostWaitTimeout (holding (cyc .read .awaitDrain)))
        (fun t => (t.hbi.cycle, t.pins.answer.map HostAnswer.busError, t.rpu.faults.map FaultRecord.awaited))
      = some (none, some true, [some .postDrain]) := by decide

/-- The state with a host Boot read in progress. -/
def bootReading : State := { holding (cyc .read .bootAccess) with bsc := State.reset.bsc.startHost 0x100#24 }

theorem test_boot_read_premises :
    bootReading.bsc.accessor.map BootAccess.user = some .hostPath ∧ bootReading.hbi.cycle = some (cyc .read .bootAccess) := by
  decide

theorem test_host_boot_read_complete :
    got (exec .hostBootReadComplete { bootReading with boot := [(0x101, 0x5A#8)] })
        (fun t => (t.hbi.cycle, t.pins.answer.bind fun a => a.data.map (·.toList), t.bsc.accessor))
      = some (none, some [some 0#8, some 0x5A#8, some 0#8, some 0#8], none) := by decide

/-- The state with an engine Boot read in progress. -/
def engineReading (dropped : Bool) : State :=
  { running .copy .bootRead with bsc := { State.reset.bsc with
      accessor := some { user := .engine, offset := 0x1000#24, dropped := dropped, durationNs := 3200 } } }

theorem test_engine_boot_read_premises :
    ∀ d : Bool, (engineReading d).bsc.accessor = some { user := .engine, offset := 0x1000#24, dropped := d, durationNs := 3200 }
      ∧ (engineReading d).txe.engine.active = some (active .copy .bootRead)
      ∧ (engineReading d).bsc.hostRequest = none ∧ (engineReading d).bsc.engineRequest = none := by decide

theorem test_pending_boot_request_premises :
    let s : State := { holding (cyc .read .awaitBoot) with bsc := { (engineReading false).bsc with hostRequest := some 0x100#24 } }
    let e : State := { running .copy .awaitBoot with bsc := { bootReading.bsc with engineRequest := some 0x1000#24 } }
    s.bsc.accessor ≠ none ∧ s.bsc.hostRequest = some 0x100#24 ∧ s.hbi.cycle = some (cyc .read .awaitBoot)
      ∧ e.bsc.accessor ≠ none ∧ e.bsc.hostRequest = none ∧ e.bsc.engineRequest = some 0x1000#24
      ∧ e.txe.engine = .running (active .copy .awaitBoot)
      ∧ ({ e with txe := { e.txe with engine := .draining (active .copy .awaitBoot) } } : State).txe.engine
          = .draining (active .copy .awaitBoot) := by decide

theorem test_engine_boot_read_complete :
    got (exec .engineBootReadComplete (engineReading false)) (fun t => (t.wpa.owner, t.wsc.access, t.bsc.accessor))
      = some (some .engine, some (.lineWrite 0x2000#24 (lineOf 0#8) 0#32 false), none) := by decide

/-- The state with a host Work read in progress over a stored byte with bad parity. -/
def workReading : State :=
  let s := inAccess (holding (cyc .read .workAccess)) (.hostRead true)
  { s with work := [(0x102, 0x01#8)], workParity := [(0x100, true), (0x101, true), (0x102, true), (0x103, true)]
           hbi := { s.hbi with parityTermination := true } }

theorem test_work_read_premises :
    workReading.wsc.access = some (.hostRead true) ∧ workReading.hbi.cycle = some (cyc .read .workAccess)
      ∧ ∀ k : Fin 4, ((0x4#4).getLsbD k.val = true ↔ true = true ∧ carries 0xF#4 k.val = true
          ∧ ¬ OddParity (Memory.read workReading.work (0x100 + k.val))
              (ParityBits.read workReading.workParity (0x100 + k.val))) := by decide

theorem test_host_work_read_complete :
    got (exec .hostWorkReadComplete workReading)
        (fun t => (t.pins.answer.map HostAnswer.busError, t.rpu.faults.map FaultRecord.lanes, t.hbi.cycle))
      = some (some true, [some 0x4#4], none) := by decide

/-- The state with an unposted host write in progress. -/
def workWriting : State := inAccess (holding (cyc .write .workAccess)) .hostWrite

theorem test_unposted_write_premises : workWriting.StoresCanonical ∧ workWriting.wsc.access = some .hostWrite
    ∧ workWriting.hbi.cycle = some (cyc .write .workAccess) :=
  ⟨⟨rfl, rfl, rfl, fun m h => by cases h⟩, rfl, rfl⟩

theorem test_unposted_write_complete :
    got (exec .unpostedWriteComplete workWriting) (fun t => (t.work, t.workParity, t.hbi.cycle))
      = some ([(0x100, 0x11#8), (0x101, 0x22#8), (0x102, 0x33#8), (0x103, 0x44#8)],
          [(0x100, true), (0x101, true), (0x102, true), (0x103, true)], none) := by decide

/-- The state with the drain of one entry in progress and a cycle waiting. -/
def draining (st : HostStage) (n : Nat) : State := posted (inAccess (holding (cyc .write st)) .drain) n

theorem test_drain_premises : ∀ st : HostStage, (draining st 1).StoresCanonical
    ∧ (draining st 1).wsc.access = some .drain ∧ (draining st 1).hbi.buffer = entry :: [] :=
  fun _ => ⟨⟨rfl, rfl, rfl, fun m h => by cases h⟩, rfl, rfl⟩

theorem test_drain_complete_posts_waiting_write :
    got (exec .drainComplete (draining .awaitSlot 4)) (fun t => (t.work, t.hbi.buffer.length, t.hbi.cycle, t.wsc.access))
      = some ([(0x100, 0xAA#8), (0x101, 0xBB#8)], 4, none, some .drain) := by decide

theorem test_drain_complete_lets_cycle_pass :
    got (exec .drainComplete (draining .awaitDrain 1)) (fun t => (t.hbi.buffer, t.hbi.cycle.map HostCycle.stage, t.wsc.access))
      = some ([], some .workAccess, some .hostWrite) := by decide

/-! ### The Transfer Engine -/

theorem test_activation :
    got (exec .activation (posted { State.reset with txe := { State.reset.txe with queue := [job .copy] } } 0))
        (fun t => (t.txe.engine.code, t.rtu.pin, t.txe.map.map ByteMap.start, t.bsc.accessor.map BootAccess.offset))
      = some (1#8, some 3, some 0x0C0000#24, some 0x0C0000#24) := by decide

/-- The state in which a COPY of a SHADOW block is next under the lock. -/
def lockedNext : State :=
  let s := mode63 .shadow
  { s with rtu := { s.rtu with lock := true }, txe := { s.txe with queue := [{ job .copy with block := 63 }] } }

theorem test_activation_premises :
    lockedNext.txe.engine = .idle ∧ lockedNext.txe.queue = { job .copy with block := 63 } :: []
      ∧ lockedNext.rtu.lock = true ∧ lockedNext.rtu.routes[63].mode = .shadow := by decide

theorem test_activation_of_locked_target :
    got (exec .activation lockedNext) (fun t => (t.txe.engine, t.rpu.completions.map CompletionRecord.reason, t.rtu.pin))
      = some (.idle, [.lockedTarget], none) := by decide

theorem test_mark_premises : LineMasks.wf [(1, 0xF#32)] = true ∧ LineMasks.wf [] = true := by decide

theorem test_mark_bounds :
    let m : ByteMap := { start := 0x2000#24, lines := 2, masks := [] }
    [(m.mark 0x203C#24 0x9#4).masks, (m.mark 0x2040#24 0xF#4).masks, (m.mark 0x1FFC#24 0xF#4).masks]
      = [[(1, 0x90000000#32)], [], []] := by decide

theorem test_serve_premises :
    (running .copy (.awaitWork (lineOf 1#8))).txe.engine = .running (active .copy (.awaitWork (lineOf 1#8)))
      ∧ (running .copy (.awaitWork (lineOf 1#8))).txe.map = some { start := 0x2000#24, lines := 2, masks := [] } := by decide

theorem test_serve_draining_and_verify_premises :
    let a := active .copy (.awaitWork (lineOf 1#8))
    ({ running .copy (.awaitWork (lineOf 1#8)) with
        txe := { (running .copy (.awaitWork (lineOf 1#8))).txe with engine := .draining a } } : State).txe.engine = .draining a
      ∧ (running .verify (.awaitWork (lineOf 1#8))).txe.engine = .running (active .verify (.awaitWork (lineOf 1#8)))
      ∧ (active .verify (.awaitWork (lineOf 1#8))).job.kind = .verify := by decide

theorem test_serve_draining_line_takes_mask :
    let s : State := { running .copy (.awaitWork (lineOf 1#8)) with
      txe := { queue := [], engine := .draining (active .copy (.awaitWork (lineOf 1#8)))
               map := some { start := 0x2000#24, lines := 2, masks := [(0, 0x1#32)] } } }
    (State.serveEngine 1 s).wsc.access = some (.lineWrite 0x2000#24 (lineOf 1#8) 0x1#32 false) := by decide

theorem test_serve_verify_line_reads :
    (State.serveEngine 1 (running .verify (.awaitWork (lineOf 1#8)))).wsc.access = some (.lineRead 0x2000#24 false false) := by
  decide

theorem test_full_mask_premise :
    LineMasks.read [(0, 0xFFFFFFFF#32)] 0 = BitVec.allOnes 32 ∧ LineMasks.read [(0, 0xFFFFFFFF#32)] 1 ≠ BitVec.allOnes 32 := by
  decide

/-- The state with the line write of a COPY in progress, its first 28 bytes marked. -/
def lineWriting (dropped : Bool) : State :=
  inAccess (running .copy .workWrite) (.lineWrite 0x2000#24 (lineOf 0x5A#8) 0x0FFFFFFF#32 dropped)

theorem test_line_write_premises : ∀ d : Bool, (lineWriting d).StoresCanonical
    ∧ (lineWriting d).wsc.access = some (.lineWrite 0x2000#24 (lineOf 0x5A#8) 0x0FFFFFFF#32 d) := by
  intro d
  refine ⟨⟨rfl, rfl, rfl, fun m h => ?_⟩, rfl⟩
  cases h
  rfl

theorem test_line_write_complete :
    got (exec .lineWriteComplete (lineWriting false)) (fun t => (t.work, t.txe.engine.linesDone, t.txe.engine.active.map ActiveJob.merged))
      = some ([(0x201C, 0x5A#8), (0x201D, 0x5A#8), (0x201E, 0x5A#8), (0x201F, 0x5A#8)], 1, some 1) := by decide

/-- The state with the read of a VERIFY line in progress. -/
def verifying (check : Bool) : State :=
  inAccess (running .verify (.workRead (lineOf 0#8))) (.lineRead 0x2000#24 check false)

theorem test_verify_premises : ∀ c : Bool, (verifying c).wsc.access = some (.lineRead 0x2000#24 c false)
    ∧ (verifying c).txe.engine.active = some (active .verify (.workRead (lineOf 0#8)))
    ∧ (active .verify (.workRead (lineOf 0#8))).stage = .workRead (lineOf 0#8)
    ∧ (∀ k : Fin 32, (lineOf 0#8)[k] = Memory.read (verifying c).work ((0x2000#24).toNat + k.val)) := by decide

theorem test_verify_parity_premises :
    (∀ k : Fin 4, ((0xF#4).getLsbD k.val = true ↔ true = true
        ∧ ¬ OddParity (Memory.read (verifying true).work (0x2000 + k.val))
            (ParityBits.read (verifying true).workParity (0x2000 + k.val))))
      ∧ ∀ k : Fin 32, ¬ (false = true
        ∧ ¬ OddParity (Memory.read (verifying false).work (0x2000 + k.val))
            (ParityBits.read (verifying false).workParity (0x2000 + k.val))) := by decide

theorem test_verify_reports_parity :
    got (exec .verifyReadComplete (verifying true))
        (fun t => (t.rpu.faults.map fun f => (f.kind, f.address, f.lanes), t.rpu.completions.map CompletionRecord.reason))
      = some ([(.workParity, 0x2000#32, some 0xF#4)], [.mismatchLimit]) := by decide

theorem test_verify_reports_first_difference :
    got (exec .verifyReadComplete { verifying false with work := [(0x2005, 7#8), (0x2006, 8#8)] })
        (fun t => t.rpu.faults.map FaultRecord.detail)
      = some [some { position := 5#5, bootByte := 0#8, workByte := 7#8 }] := by decide

theorem test_line_completion_premises :
    (running .copy .workWrite).txe.engine = .running (active .copy .workWrite)
      ∧ ¬ ((active .copy .workWrite).job.firstLine + (active .copy .workWrite).job.lineCount
            ≤ (active .copy .workWrite).nextLine + 1)
      ∧ (let a : ActiveJob := { active .copy .workWrite with nextLine := 1 }
         a.job.firstLine + a.job.lineCount ≤ a.nextLine + 1)
      ∧ (active .verify .bootRead).job.limit.toNat ≤ (active .verify .bootRead).mismatches + 1
      ∧ State.reset.bsc.accessor = none ∧ State.reset.bsc.hostRequest = none := by decide

theorem test_job_end_holds_record_in_full_list :
    let s : State := { running .copy .workWrite with rpu := { State.reset.rpu with completions := List.replicate 8 oneDone } }
    ((s.jobEnd (active .copy .workWrite) .done .none).txe.engine.code,
      (s.jobEnd (active .copy .workWrite) .done .none).rtu.routes[3].mode) = (3#8, .shadow) := by decide

/-! ### The Work Store port and the Auxiliary Master Port -/

theorem test_settle_busy_premise : (lineWriting false).wsc.access ≠ none := by decide

/-- The state in which HOST_PATH owns the port, idle, and AUX wants it. -/
def contended : State :=
  { State.reset with
    amp := { State.reset.amp with areq := true }
    wpa := { State.reset.wpa with owner := some .hostPath, guarantee := .running 1, idle := .running 1, counting := true } }

/-- The state in which AUX is granted the port. -/
def granted : State :=
  { State.reset with
    amp := { State.reset.amp with areq := true }
    wpa := { State.reset.wpa with owner := some .aux, guarantee := .running 32 }
    pins := { State.reset.pins with agnt := true } }

theorem test_handover_premises :
    contended.wsc.access = none ∧ contended.wants .aux = true ∧ contended.wants .engine = false
      ∧ contended.wpa.idle ≠ .running 0 ∧ contended.wpa.guarantee = .running 1 ∧ contended.wpa.idle = .running 1 := by
  decide

theorem test_ring_premises :
    contended.FirstInRing .hostPath .aux ∧ contended.wpa.counting = true
      ∧ ({ contended with wpa := { contended.wpa with owner := none } } : State).wpa.owner = none
      ∧ (posted contended 1).FirstInRing .aux .hostPath
      ∧ State.reset.wpa.owner = none ∧ ∀ r, State.reset.wants r = false :=
  ⟨⟨rfl, [.engine], [.hostPath], rfl, by decide⟩, rfl, rfl, ⟨rfl, [], [.engine, .aux], rfl, by decide⟩, rfl, by
    intro r
    cases r <;> rfl⟩

theorem test_arbitrate_premises :
    (contended.wsc.access = none ∧ contended.wpa.owner = some .hostPath ∧ contended.wants .hostPath = false)
      ∧ (posted contended 1).wants .hostPath = true
      ∧ (holding (cyc .read .awaitWork)).wants .hostPath = true ∧ (holding (cyc .read .awaitWork)).hbi.buffer = []
      ∧ (running .copy (.awaitWork (lineOf 1#8))).wants .engine = true
      ∧ State.reset.wants .engine = false ∧ granted.wants .aux = true ∧ granted.wpa.owner = some .aux := by decide

theorem test_arbitrate_bounds :
    let s (g : GuaranteeTimer) (i : IdleTimer) (w : Byte) : State := { contended with wpa := { contended.wpa with
      guarantee := g, idle := i, idleWindows := { contended.wpa.idleWindows with hostPath := w } } }
    let res (u : State) : Option Requester × IdleTimer := (u.settle.wpa.owner, u.settle.wpa.idle)
    [res (s (.running 4) .stopped 4#8), res (s (.running 4) .stopped 0#8), res (s (.running 4) (.running 1) 4#8),
      res (s .expired .stopped 4#8), res (s (.running 0) .stopped 4#8),
      res { s .expired .stopped 4#8 with amp := State.reset.amp }]
      = [(some .hostPath, .running 4), (some .aux, .stopped), (some .hostPath, .running 1), (some .aux, .stopped),
          (some .aux, .stopped), (some .hostPath, .stopped)] := by decide

/-- ENGINE, idle owner, whose line has all its bytes marked when its Boot read ends; AUX waits. -/
def skipping : State :=
  { engineReading false with
    txe := { (engineReading false).txe with map := some { start := 0x2000#24, lines := 2, masks := [(0, 0xFFFFFFFF#32)] } }
    amp := { State.reset.amp with areq := true }
    wpa := { State.reset.wpa with owner := some .engine, guarantee := .running 4, idle := .running 1 } }

theorem test_resumption_that_skips_starts_idle_timer_afresh :
    got (exec .engineBootReadComplete skipping)
        (fun t => (t.wpa.owner, t.wpa.idle, t.txe.engine.linesDone, t.wsc.access))
      = some (some .engine, .running 2, 1, none) := by decide

theorem test_arbiter_tick :
    got (exec .arbiterTick contended) (fun t => (t.wpa.owner, t.wpa.live.aux.waitUnits, t.wpa.live.hostPath.forfeits, t.pins.agnt))
      = some (some .aux, 1#24, 1#16, true) := by decide

theorem test_idle_expiry :
    got (exec .idleExpiry contended) (fun t => (t.wpa.owner, t.wpa.guarantee)) = some (some .aux, .running 32) := by decide

theorem test_guarantee_expiry :
    got (exec .guaranteeExpiry (posted { contended with wpa := { contended.wpa with idle := .stopped } } 0))
        (fun t => (t.wpa.owner, t.wpa.live.hostPath.preemptions)) = some (some .aux, 0#16) := by decide

theorem test_areq_assert :
    got (exec .areqAssert State.reset) (fun t => (t.wpa.owner, t.pins.agnt)) = some (some .aux, true) := by decide

theorem test_areq_deassert_leaves_running_idle_timer :
    let s := posted granted 1
    got (exec .areqDeassert { s with wpa := { s.wpa with idle := .running 3 } }) (fun t => (t.wpa.owner, t.wpa.idle, t.pins.agnt))
      = some (some .aux, .running 3, false) := by decide

theorem test_areq_deassert :
    got (exec .areqDeassert granted) (fun t => (t.amp.areq, t.pins.agnt, t.wpa.owner)) = some (false, false, some .aux) := by
  decide

/-- An aux cycle's lines. -/
def auxc (aa : BitVec 22) (dir : Direction) (lanes : Lanes) : AuxRequest :=
  { aa := aa, dir := dir, lanes := lanes, data := 0x44332211#32 }

theorem test_aux_start_premises :
    granted.amp.astb = false ∧ granted.inReset = false ∧ granted.amp.cycle = .noCycle ∧ granted.pins.agnt = true
      ∧ State.reset.pins.agnt = false ∧ granted.amp.windowBase.toNat ≤ ((0x0FFFFF#22 ++ 0#2 : Offset)).toNat
      ∧ ((0x0FFFFF#22 ++ 0#2 : Offset)).toNat < granted.amp.windowLimit.toNat + 0x1000
      ∧ ¬ (((0x100000#22 ++ 0#2 : Offset)).toNat < granted.amp.windowLimit.toNat + 0x1000) := by decide

theorem test_aux_cycle_start :
    let res (s : State) (c : AuxRequest) : Option (Bool × Bool × List FaultKind × Bool) :=
      got (exec (.auxCycleStart c) s)
        fun t => (t.pins.adone, t.pins.aerr, t.rpu.faults.map FaultRecord.kind, t.wsc.access.isSome)
    [res State.reset (auxc 0#22 .read 0xF#4), res granted (auxc 0#22 .read 0#4), res granted (auxc 0x100000#22 .write 0xF#4),
      res granted (auxc 0x0FFFFF#22 .write 0xF#4)]
      = [some (true, true, [.auxUngranted], false), some (true, false, [], false), some (true, true, [.auxRange], false),
          some (false, false, [], true)] := by decide

/-- The state with an aux access in progress. -/
def auxAccess (dir : Direction) (astb : Bool) : State :=
  let s := inAccess granted (.aux true)
  { s with amp := { s.amp with
      astb := astb
      cycle := .access { offset := 0x200#24, dir := dir, lanes := 0x3#4, data := 0x2211#32 } } }

theorem test_aux_access_premises : ∀ d : Direction, (auxAccess d true).StoresCanonical
    ∧ (auxAccess d true).wsc.access = some (.aux true)
    ∧ (auxAccess d true).amp.cycle = .access { offset := 0x200#24, dir := d, lanes := 0x3#4, data := 0x2211#32 } :=
  fun _ => ⟨⟨rfl, rfl, rfl, fun m h => by cases h⟩, rfl, rfl⟩

theorem test_aux_read_premises :
    (∀ k : Fin 4, ((0x3#4).getLsbD k.val = true ↔ true = true ∧ carries 0x3#4 k.val = true
        ∧ ¬ OddParity (Memory.read [] (0x200 + k.val)) (ParityBits.read [] (0x200 + k.val))))
      ∧ ∀ k : Fin 4, (0xFFFF0000#32 >>> (8 * k.val)).setWidth 8
          = if carries 0x3#4 k.val then Memory.read [] (0x200 + k.val) else 0xFF#8 := by decide

theorem test_aux_write_complete :
    got (exec .auxAccessComplete (auxAccess .write true)) (fun t => (t.work, t.pins.adone, t.pins.aerr))
      = some ([(0x200, 0x11#8), (0x201, 0x22#8)], true, false) := by decide

theorem test_aux_read_complete :
    got (exec .auxAccessComplete (auxAccess .read true)) (fun t => (t.work, t.pins.aerr, t.pins.ad))
      = some ([], true, some 0xFFFF0000#32) := by decide

theorem test_astb_premises : (auxAccess .read true).amp.astb = true ∧ (auxAccess .read false).amp.astb = false
    ∧ heldInReset.amp.areq = false ∧ heldInReset.amp.astb = false
    ∧ ({ granted with inReset := true } : State).amp.areq = true := by decide

theorem test_astb_drop :
    got (exec .astbDrop (auxAccess .read true)) (fun t => (t.amp.astb, t.wsc.access)) = some (false, some (.aux true)) := by
  decide

theorem test_astb_assertion_during_access :
    got (exec .astbAssertionDuringAccess (auxAccess .read false)) (fun t => (t.amp.astb, t.wsc.access))
      = some (true, some (.aux true)) := by decide

/-! ### The Fault Queue (Table 8-7) -/

theorem test_fault_premises :
    let a := fault .discardedWrite 0xFFFC0010#32 254#8
    ({ State.reset.rpu with faults := [] ++ [a] } : Rpu).faults = [] ++ [a] ∧ a.repeats.toNat < 255
      ∧ ¬ ((fault .discardedWrite 0xFFFC0010#32 255#8).repeats.toNat < 255) := by decide

theorem test_fault_coalesces_appends_and_is_lost :
    let a (n : Byte) := fault .discardedWrite 0xFFFC0010#32 n
    let u (l : List FaultRecord) : Rpu := { State.reset.rpu with faults := l }
    (((u [a 254#8]).takeFault (a 1#8)).faults, ((u [a 255#8]).takeFault (a 1#8)).faults,
      ((u (List.replicate 8 (a 255#8))).takeFault (a 1#8)).lost) = ([a 255#8], [a 255#8, a 1#8], 1#8) := by decide

/-! ### Hardware reset -/

theorem test_reset_assert :
    got (exec .resetAssert (posted (running .copy .bootRead) 3)) (fun t => (t.inReset, t.hbi.buffer, t.txe.engine, t.rtu.pin))
      = some (true, [], .idle, none) := by decide

theorem test_reset_abandons_premises :
    (draining .awaitDrain 1).inReset = false ∧ workWriting.inReset = false ∧ (lineWriting false).inReset = false
      ∧ (auxAccess .write true).inReset = false ∧ workReading.wsc.access = some (.hostRead true)
      ∧ (verifying true).wsc.access = some (.lineRead 0x2000#24 true false) := by decide

theorem test_reset_release :
    got (exec (.resetRelease { resetStraps with winpos := false, portsel := true }) heldInReset)
        (fun t => (t.rtu.windowBase, t.rtu.routes[1].mode, t.rtu.routes[2].mode, t.rgw.portBase))
      = some (0#32, .boot, .pass, 0x1D4#16) := by decide

end Sys2Proof.Tests
end

section
/-! PROOF. What a command that the part takes answers, and the field codes of Table 11-2 (family 01_routing_table.md). -/

namespace Sys2Proof.Machine

/-! ### Commands whose rule leaves the outputs and the index alone -/

/-- A command that the part takes, whose block's rule leaves the outputs and the index that the opened cycle has set:
the answer is `u`, what the rule makes of the state before the cycle, with the result recorded and the cycle ended. -/
theorem State.command_windowWritten (s : State) (c : IoCycle) (mine : Byte → Bool) (run : State → Reply) (code : Byte)
    (u : State) (r : ResultCode) (arg : Byte) (h : s.TakesCommand c code) (hm : mine code = true)
    (hrun : run (s.openIo c)
      = { state := { u with pins := s.openPins .io (wordAddr c.ha) .write true
                            rgw := { u.rgw with index := s.selectedIndex c } }, result := r, arg := arg })
    (hp : u.pins = s.pins) :
    s.command c mine run = .next (s.windowWritten c (u.withResult code r arg)) := by
  rw [State.command_takes s c mine run code h hm, hrun]
  unfold State.windowWritten
  rw [State.withResult_pins, hp]
  rfl

/-- A command that the part takes and its block refuses records the reason and changes nothing else. -/
theorem State.command_refuses (s : State) (c : IoCycle) (mine : Byte → Bool) (run : State → Reply) (code : Byte)
    (r : ResultCode) (h : s.TakesCommand c code) (hm : mine code = true)
    (hrun : run (s.openIo c) = { state := s.openIo c, result := r }) :
    s.command c mine run = .next (s.windowWritten c (s.withResult code r 0#8)) :=
  State.command_windowWritten s c mine run code s r 0#8 h hm hrun rfl

/-! ### Codes (Table 11-2) -/

/-- A flag byte names no with 0 and yes with 1, and nothing else. -/
theorem flagOfCode_eq (b : Byte) :
    flagOfCode b = if b = 0#8 then some false else if b = 1#8 then some true else none := by
  revert b
  decide

/-- A byte names the mode whose code it is. -/
theorem Mode.ofCode_eq_some_iff (b : Byte) (m : Mode) : Mode.ofCode b = some m ↔ m.code = b := by
  revert b
  cases m <;> decide

/-- A byte names the fault action whose code it is. -/
theorem FaultAction.ofCode_eq_some_iff (b : Byte) (f : FaultAction) : FaultAction.ofCode b = some f ↔ f.code = b := by
  revert b
  cases f <;> decide

theorem Mode.ofCode_isSome_iff (b : Byte) : (∃ m, Mode.ofCode b = some m) ↔ b.toNat ≤ 5 := by
  rw [← Option.isSome_iff_exists]
  revert b
  decide

theorem FaultAction.ofCode_isSome_iff (b : Byte) : (∃ f, FaultAction.ofCode b = some f) ↔ b.toNat ≤ 2 := by
  rw [← Option.isSome_iff_exists]
  revert b
  decide

end Sys2Proof.Machine
end

section
/-! PROOF. The commands of the Routing Unit, the aux window, the ports and the staging loads: each check in its
order (O24, O25, O26). -/

namespace Sys2Proof.Machine

/-! ### What the rule of each command answers -/

/-- The conditions of R121 on an aux window, with the store size written out. -/
theorem validAuxWindow_iff (base limit : Offset) (st : Straps) :
    validAuxWindow base limit st.workSize = true ↔ base.toNat % 0x1000 = 0 ∧ limit.toNat % 0x1000 = 0
      ∧ base.toNat ≤ limit.toNat ∧ limit.toNat < 0x200000 * 2 ^ st.wsize.toNat := by
  rw [← (Straps.sizes_eq st).1]
  simp only [validAuxWindow, Bool.and_eq_true, decide_eq_true_eq, and_assoc]
  rfl

/-- The conditions of R171 on a port base. -/
theorem validPortBase_iff (p : BitVec 16) :
    validPortBase p = true ↔ p.toNat % 2 = 0 ∧ 0x100 ≤ p.toNat ∧ p.toNat ≤ 0xFFE := by
  simp [validPortBase, and_assoc]

theorem State.runSetWindow_locked (s : State) (hl : s.rtu.lock = true) :
    s.runSetWindow = { state := s, result := .locked } :=
  if_pos hl

theorem State.runSetWindow_badField (s : State) (hl : ¬ s.rtu.lock = true)
    (h : s.rgw.staging.window.base.toNat % 0x1000000 ≠ 0
      ∨ (s.rgw.staging.window.enable ≠ 0#8 ∧ s.rgw.staging.window.enable ≠ 1#8)) :
    s.runSetWindow = { state := s, result := .badField } := by
  unfold State.runSetWindow
  rw [if_neg hl, flagOfCode_eq]
  rcases h with hbase | ⟨h0, h1⟩
  · split
    · exact if_neg hbase
    · rfl
  · rw [if_neg h0, if_neg h1]

theorem State.runSetWindow_ok (s : State) (hl : ¬ s.rtu.lock = true)
    (h : ¬ (s.rgw.staging.window.base.toNat % 0x1000000 ≠ 0
      ∨ (s.rgw.staging.window.enable ≠ 0#8 ∧ s.rgw.staging.window.enable ≠ 1#8))) :
    s.runSetWindow
      = { state := { s with rtu := { s.rtu with windowBase := s.rgw.staging.window.base
                                                windowEnable := decide (s.rgw.staging.window.enable = 1#8) } }
          result := .ok } := by
  obtain ⟨hbase, hen⟩ := not_or.mp h
  have hflag : flagOfCode s.rgw.staging.window.enable = some (decide (s.rgw.staging.window.enable = 1#8)) := by
    rw [flagOfCode_eq]
    by_cases h0 : s.rgw.staging.window.enable = 0#8
    · simp [h0]
    · simp [not_not.mp fun h1 => hen ⟨h0, h1⟩]
  unfold State.runSetWindow
  rw [if_neg hl, hflag]
  exact if_pos (not_not.mp hbase)

/-- Settles O24: each check of R3, R131 and R171 in turn, by the rule of its command. -/
theorem setCommandsCheckThenReplace : Obligations.SetCommandsCheckThenReplace := by
  intro s c
  refine ⟨fun h => ?_, fun h => ?_, fun h => ?_⟩
  · show s.command c _ State.runSetWindow = _
    dsimp only
    split
    · exact State.command_refuses _ _ _ _ _ _ h rfl (State.runSetWindow_locked _ ‹_›)
    · split
      · exact State.command_refuses _ _ _ _ _ _ h rfl (State.runSetWindow_badField _ ‹_› ‹_›)
      · exact State.command_windowWritten _ _ _ _ _ _ _ _ h rfl (State.runSetWindow_ok _ ‹_› ‹_›) rfl
  · show s.command c _ State.runSetAuxWindow = _
    have hvalid := validAuxWindow_iff s.rgw.staging.aux.base s.rgw.staging.aux.limit s.straps
    dsimp only
    split
    · exact State.command_refuses _ _ _ _ _ _ h rfl (if_pos ‹_›)
    · rename_i hl
      split
      · have hv : ¬ validAuxWindow s.rgw.staging.aux.base s.rgw.staging.aux.limit s.straps.workSize = true := by
          rw [hvalid]
          omega
        exact State.command_refuses _ _ _ _ _ _ h rfl ((if_neg hl).trans (if_neg hv))
      · have hv : validAuxWindow s.rgw.staging.aux.base s.rgw.staging.aux.limit s.straps.workSize = true := by
          rw [hvalid]
          omega
        exact State.command_windowWritten _ _ _ _ _ _ _ _ h rfl ((if_neg hl).trans (if_pos hv)) rfl
  · show s.command c _ State.runSetPorts = _
    have hvalid := validPortBase_iff s.rgw.staging.ports
    dsimp only
    split
    · have hv : ¬ validPortBase s.rgw.staging.ports = true := by
        rw [hvalid]
        omega
      exact State.command_refuses _ _ _ _ _ _ h rfl (if_neg hv)
    · have hv : validPortBase s.rgw.staging.ports = true := by
        rw [hvalid]
        omega
      exact State.command_windowWritten _ _ _ _ _ _ _ _ h rfl (if_pos hv) rfl

/-! ### COMMIT_ROUTE -/

/-- The fields of a route staging record pass their checks (R18, step 4). -/
def RouteStaging.FieldsPass (r : RouteStaging) (st : Straps) : Prop :=
  r.mode.toNat ≤ 5 ∧ r.faultAction.toNat ≤ 2
    ∧ r.bootBase.toNat % 0x40000 = 0 ∧ r.bootBase.toNat < 0x200000 * 2 ^ st.bsize.toNat
    ∧ r.workBase.toNat % 0x40000 = 0 ∧ r.workBase.toNat < 0x200000 * 2 ^ st.wsize.toNat

/-- The conditions of R5 on a base. -/
theorem validBase_iff (base : Offset) (size : Nat) :
    validBase base size = true ↔ base.toNat % 0x40000 = 0 ∧ base.toNat < size := by
  simp only [validBase, Bool.and_eq_true, decide_eq_true_eq]
  rfl

/-- The entry a route staging record stages holds the record's four fields, and its bases are valid. -/
theorem RouteStaging.entry?_eq_some {r : RouteStaging} {st : Straps} {e : RouteEntry} (h : r.entry? st = some e) :
    e.staged = r ∧ validBase e.bootBase st.bootSize = true ∧ validBase e.workBase st.workSize = true := by
  unfold RouteStaging.entry? at h
  split at h
  · rename_i m f hm hf
    split at h
    · rename_i hv
      simp only [Bool.and_eq_true] at hv
      simp only [Option.some.injEq] at h
      subst h
      refine ⟨?_, hv⟩
      rw [Mode.ofCode_eq_some_iff] at hm
      rw [FaultAction.ofCode_eq_some_iff] at hf
      simp only [RouteEntry.staged, hm, hf]
    · cases h
  · cases h

/-- A route staging record stages an entry exactly where its fields pass. -/
theorem RouteStaging.fieldsPass_iff (r : RouteStaging) (st : Straps) : r.FieldsPass st ↔ ∃ e, r.entry? st = some e := by
  have hvalid : validBase r.bootBase st.bootSize = true ∧ validBase r.workBase st.workSize = true ↔
      (r.bootBase.toNat % 0x40000 = 0 ∧ r.bootBase.toNat < 0x200000 * 2 ^ st.bsize.toNat)
        ∧ r.workBase.toNat % 0x40000 = 0 ∧ r.workBase.toNat < 0x200000 * 2 ^ st.wsize.toNat := by
    rw [validBase_iff, validBase_iff, (Straps.sizes_eq st).1, (Straps.sizes_eq st).2]
  unfold RouteStaging.FieldsPass RouteStaging.entry?
  rw [← Mode.ofCode_isSome_iff, ← FaultAction.ofCode_isSome_iff]
  rcases Mode.ofCode r.mode with _ | m
  · simp
  rcases FaultAction.ofCode r.faultAction with _ | f
  · simp
  simp [hvalid, and_assoc]

theorem State.runCommitRoute_locked (s : State) (hn : s.rgw.argument.toNat < 64) (hl : s.rtu.lock = true) :
    s.runCommitRoute = { state := s, result := .locked } :=
  (dif_pos hn).trans (if_pos hl)

theorem State.runCommitRoute_pinned (s : State) (hn : s.rgw.argument.toNat < 64) (hl : s.rtu.lock = false)
    (hp : s.rtu.pin = some ⟨s.rgw.argument.toNat, hn⟩) : s.runCommitRoute = { state := s, result := .pinned } :=
  (dif_pos hn).trans ((if_neg (by simp [hl])).trans (if_pos hp))

theorem State.runCommitRoute_badField (s : State) (hn : s.rgw.argument.toNat < 64) (hl : s.rtu.lock = false)
    (hp : s.rtu.pin ≠ some ⟨s.rgw.argument.toNat, hn⟩) (he : s.rgw.staging.route.entry? s.straps = none) :
    s.runCommitRoute = { state := s, result := .badField } := by
  unfold State.runCommitRoute
  rw [dif_pos hn, if_neg (by simp [hl]), if_neg hp, he]

theorem State.runCommitRoute_ok (s : State) (hn : s.rgw.argument.toNat < 64) (hl : s.rtu.lock = false)
    (hp : s.rtu.pin ≠ some ⟨s.rgw.argument.toNat, hn⟩) (e : RouteEntry)
    (he : s.rgw.staging.route.entry? s.straps = some e) :
    s.runCommitRoute
      = { state := { s with rtu := { s.rtu with routes := s.rtu.routes.set s.rgw.argument.toNat e hn } }
          result := .ok } := by
  unfold State.runCommitRoute
  rw [dif_pos hn, if_neg (by simp [hl]), if_neg hp, he]

/-- Settles O25: the checks of R18 in turn; the entry the staging record stages exists exactly where its fields pass. -/
theorem commitRouteChecksThenReplaces : Obligations.CommitRouteChecksThenReplaces := by
  intro s c h n r fields
  have hfields : fields ↔ ∃ e, r.entry? s.straps = some e := RouteStaging.fieldsPass_iff r s.straps
  refine ⟨fun hn => ?_, fun hn => ⟨fun hl => ?_, fun hl hp => ?_, fun hl hp hf => ?_, fun hl hp hf => ?_⟩⟩
  · have hn' : ¬ n < 64 := by omega
    exact State.command_refuses _ _ _ _ _ _ h rfl (dif_neg hn')
  · exact State.command_refuses _ _ _ _ _ _ h rfl (State.runCommitRoute_locked _ hn hl)
  · exact State.command_refuses _ _ _ _ _ _ h rfl (State.runCommitRoute_pinned _ hn hl hp)
  · have hnone : r.entry? s.straps = none := by
      rw [← Option.not_isSome_iff_eq_none, Option.isSome_iff_exists, ← hfields]
      exact hf
    exact State.command_refuses _ _ _ _ _ _ h rfl (State.runCommitRoute_badField _ hn hl hp hnone)
  · obtain ⟨e, he⟩ := hfields.mp hf
    obtain ⟨hst, -, -⟩ := RouteStaging.entry?_eq_some he
    refine ⟨e, congrArg RouteStaging.mode hst, congrArg RouteStaging.faultAction hst,
      congrArg RouteStaging.bootBase hst, congrArg RouteStaging.workBase hst, ?_⟩
    exact State.command_windowWritten _ _ _ _ _ _ _ _ h rfl (State.runCommitRoute_ok (s.openIo c) hn hl hp e he) rfl

/-! ### The loads -/

/-- Settles O26: each load looks at the index alone, and copies the entry as its staging record holds it. -/
theorem loadsCopyEntriesIntoStaging : Obligations.LoadsCopyEntriesIntoStaging := by
  intro s c n
  refine ⟨fun h => ⟨fun hn => ?_, fun hn => ?_⟩, fun h => ⟨fun hn => ?_, fun hn => ?_⟩,
    fun h => ⟨fun hn => ?_, fun hn => ?_⟩⟩
  · exact State.command_refuses s c _ State.runLoadRoute _ _ h rfl (dif_neg (Nat.not_lt.mpr hn))
  · exact State.command_windowWritten s c _ State.runLoadRoute _ _ _ _ h rfl (dif_pos hn) rfl
  · exact State.command_refuses s c _ State.runLoadOverlay _ _ h rfl (dif_neg (Nat.not_lt.mpr hn))
  · exact State.command_windowWritten s c _ State.runLoadOverlay _ _ _ _ h rfl (dif_pos hn) rfl
  · exact State.command_refuses s c _ State.runLoadSelect _ _ h rfl (dif_neg (Nat.not_lt.mpr hn))
  · exact State.command_windowWritten s c _ State.runLoadSelect _ _ _ _ h rfl (dif_pos hn) rfl

end Sys2Proof.Machine
end

section
/-! PROOF. Route resolution step by step (O36), and the cycles that end at their arrival (O38). -/

namespace Sys2Proof.Machine

/-! ### Route resolution -/

/-- The window is the 16 MiB from the window base, while it is enabled (R1). -/
theorem Rtu.inWindow_iff (r : Rtu) (addr : HostAddr) :
    r.inWindow addr = true ↔ r.windowEnable = true ∧ r.windowBase.toNat ≤ addr.toNat
      ∧ addr.toNat < r.windowBase.toNat + 0x1000000 := by
  simp only [Rtu.inWindow, Bool.and_eq_true, decide_eq_true_eq, and_assoc]
  rfl

/-- In the window the window-relative address is the distance from the window base (R2). -/
theorem Rtu.relative_toNat (r : Rtu) (addr : HostAddr) (hlo : r.windowBase.toNat ≤ addr.toNat)
    (hhi : addr.toNat < r.windowBase.toNat + 0x1000000) :
    (r.relative addr).toNat = addr.toNat - r.windowBase.toNat := by
  rw [Rtu.relative, BitVec.toNat_setWidth, BitVec.toNat_sub_of_le hlo]
  omega

/-- An overlay entry applies to a page when it is enabled and names it (R26). -/
def Rtu.Names (r : Rtu) (page : BitVec 12) (i : Fin 16) : Prop :=
  r.overlays[i].enabled = true ∧ r.overlays[i].hostPage = page

/-- No overlay entry applies to a page that none names. -/
theorem Rtu.applying_eq_none (r : Rtu) (page : BitVec 12) (h : ∀ i, ¬ r.Names page i) : r.applying page = none := by
  refine List.find?_eq_none.mpr fun i _ => ?_
  simpa [Rtu.Names] using h i

/-- The lowest-numbered entry that names a page applies to it (R26). -/
theorem Rtu.applying_eq_some (r : Rtu) (page : BitVec 12) (i : Fin 16) (h : r.Names page i)
    (hlow : ∀ j : Fin 16, j < i → ¬ r.Names page j) : r.applying page = some i := by
  refine List.find?_eq_some_iff_getElem.mpr ⟨by simpa [Rtu.Names] using h, i.val, by simp, by simp, fun j hj => ?_⟩
  have hj' := hlow ⟨j, by omega⟩ hj
  simpa [Rtu.Names, imp_iff_not_or] using hj'

/-- A CLOSED block decides before any overlay entry (R9, step 2). -/
theorem Rtu.resolve_closed (r : Rtu) (addr : HostAddr) (dir : Direction) (b : Fin 64) (hin : r.inWindow addr = true)
    (hb : blockOf (r.relative addr) = b) (hc : r.routes[b].mode = .closed) :
    r.resolve addr dir = .closed b r.routes[b].faultAction := by
  subst hb
  exact (if_pos hin).trans (if_pos hc)

/-- Without an applying overlay entry the Routing Table alone decides (R9, step 4). -/
theorem Rtu.resolve_route (r : Rtu) (addr : HostAddr) (dir : Direction) (b : Fin 64) (hin : r.inWindow addr = true)
    (hb : blockOf (r.relative addr) = b) (hn : r.applying (pageOf (r.relative addr)) = none) :
    r.resolve addr dir = r.routes[b].route b (blockOffset (r.relative addr)) dir := by
  subst hb
  by_cases hc : r.routes[blockOf (r.relative addr)].mode = .closed
  · rw [r.resolve_closed addr dir _ hin rfl hc]
    simp only [RouteEntry.route, hc]
  · unfold Rtu.resolve
    simp only [hin, hn, if_neg hc, if_true]

/-- An overlay entry that applies outside a CLOSED block routes a read to its Work page (R9, step 3; R27). -/
theorem Rtu.resolve_overlay_read (r : Rtu) (addr : HostAddr) (b : Fin 64) (i : Fin 16) (hin : r.inWindow addr = true)
    (hb : blockOf (r.relative addr) = b) (hc : r.routes[b].mode ≠ .closed)
    (hi : r.applying (pageOf (r.relative addr)) = some i) :
    r.resolve addr .read = .workRead (r.overlays[i].workPage + pageOffset (r.relative addr)) b (some i) := by
  subst hb
  unfold Rtu.resolve
  simp only [hin, hi, if_neg hc, if_true]

/-- It routes a write to its Work page under READS_WRITES (R28), and leaves it to the Routing Table under READS
(R29). -/
theorem Rtu.resolve_overlay_write (r : Rtu) (addr : HostAddr) (b : Fin 64) (i : Fin 16) (hin : r.inWindow addr = true)
    (hb : blockOf (r.relative addr) = b) (hc : r.routes[b].mode ≠ .closed)
    (hi : r.applying (pageOf (r.relative addr)) = some i) :
    (r.overlays[i].scope = .readsWrites → r.resolve addr .write
        = .workWrite (r.overlays[i].workPage + pageOffset (r.relative addr)) b (some i))
    ∧ (r.overlays[i].scope = .reads →
        r.resolve addr .write = r.routes[b].route b (blockOffset (r.relative addr)) .write) := by
  subst hb
  unfold Rtu.resolve
  constructor <;> intro hs <;> simp only [hin, hi, hs, if_neg hc, if_true]

/-- Settles O36: the window-relative address is the distance from the window base, and each step of R9 decides before
the next. -/
theorem routeResolutionOrder : Obligations.RouteResolutionOrder := by
  intro r addr dir inside rel b off e names column
  have hin : inside → r.inWindow addr = true := (r.inWindow_iff addr).mpr
  have hrel : inside → (r.relative addr).toNat = rel := fun ⟨_, hlo, hhi⟩ => r.relative_toNat addr hlo hhi
  have hb : inside → blockOf (r.relative addr) = b := fun h => congrArg (fun n => Fin.ofNat 64 (n / 0x40000)) (hrel h)
  have hoff : inside → blockOffset (r.relative addr) = off :=
    fun h => congrArg (fun n => BitVec.ofNat 24 (n % 0x40000)) (hrel h)
  have hpoff : inside → pageOffset (r.relative addr) = BitVec.ofNat 24 (rel % 0x1000) :=
    fun h => congrArg (fun n => BitVec.ofNat 24 (n % 0x1000)) (hrel h)
  have hcol (d : Direction) : e.route b off d = column d := by
    unfold RouteEntry.route
    cases hm : e.mode <;> cases d <;> simp only [column, hm]
  have hnames (h : inside) (i : Fin 16) : r.Names (pageOf (r.relative addr)) i ↔ names i := by
    have hpage : (pageOf (r.relative addr)).toNat = rel / 0x1000 := by
      have hlt := (r.relative addr).isLt
      rw [pageOf, BitVec.toNat_ofNat, Nat.mod_eq_of_lt (by unfold Config.pageBytes; omega), hrel h]
      rfl
    rw [Rtu.Names, ← BitVec.toNat_inj, hpage]
  refine ⟨fun h => ?_, fun h hc => ?_, fun h hn => ?_, fun i h hc hi hlow => ?_⟩
  · exact if_neg (by rwa [Rtu.inWindow_iff])
  · exact r.resolve_closed addr dir b (hin h) (hb h) hc
  · rw [r.resolve_route addr dir b (hin h) (hb h) (r.applying_eq_none _ fun i => (hnames h i).not.mpr (hn i)), hoff h]
    exact hcol dir
  · have happ := r.applying_eq_some _ i ((hnames h i).mpr hi) fun j hj => (hnames h j).not.mpr (hlow j hj)
    have hread := r.resolve_overlay_read addr b i (hin h) (hb h) hc happ
    obtain ⟨hboth, hreads⟩ := r.resolve_overlay_write addr b i (hin h) (hb h) hc happ
    rw [hpoff h] at hread hboth
    rw [hoff h] at hreads
    exact ⟨hread, hboth, fun hs => (hreads hs).trans (hcol .write)⟩

/-! ### Cycles that end at arrival -/

/-- A DISCARD or CLOSED cycle that has arrived ends with its fault handed over unless SILENT (R11 to R13). -/
theorem State.endRefused_arrive (s : State) (kind : FaultKind) (addr : HostAddr) (dir : Direction) (b : Fin 64)
    (fa : FaultAction) (data : Option LaneData) :
    (s.arrive .memory addr dir true).endRefused kind addr dir b fa data
      = { s with
          hbi := { s.hbi with cycle := none, timerRunning := false }
          rpu := if fa = .silent then s.rpu else s.rpu.takeFault (hostFault kind addr dir b)
          pins := s.endedPins .memory addr dir { busError := decide (fa = .recordAndError), data := data } } := by
  cases fa <;> rfl

/-- Settles O38: the arrival proceeds by its route, and a refused route ends it at once. -/
theorem refusedCyclesEndAtArrival : Obligations.RefusedCyclesEndAtArrival := by
  intro s c b fa hbus hl hr addr fault ended
  have harr := exec_hostMemoryCycleArrival c s hl hbus hr
  refine ⟨fun hroute => ?_, fun hroute => ?_⟩
  · have hclaimed : s.rtu.resolve addr c.dir ≠ .notClaimed := by simp [hroute]
    rw [harr, decide_eq_true hclaimed, hroute]
    exact congrArg State.done (State.endRefused_arrive s .discardedWrite addr c.dir b fa none)
  · have hclaimed : s.rtu.resolve addr c.dir ≠ .notClaimed := by simp [hroute]
    rw [harr, decide_eq_true hclaimed, hroute]
    exact congrArg State.done (State.endRefused_arrive s .closedAccess addr c.dir b fa _)

end Sys2Proof.Machine
end

section
/-! PROOF. The release of RESET: the arbiter's first grant, and the reset values for the sampled straps (O60). -/

namespace Sys2Proof.Machine

/-! ### The release of RESET -/

/-- At the release AUX alone may want the port: nothing is held by the host path or the engine (R103, R133). -/
theorem State.release_wants (s : State) (st : Straps) :
    (s.release st).wants .hostPath = false ∧ (s.release st).wants .engine = false
      ∧ (s.release st).wants .aux = s.amp.areq :=
  ⟨rfl, rfl, Bool.and_true _⟩

/-- With AREQ deasserted the port stays without an owner. -/
theorem State.release_settle_quiet (s : State) (st : Straps) (h : s.amp.areq = false) :
    (s.release st).settle = s.release st := by
  obtain ⟨hh, he, ha⟩ := s.release_wants st
  have hnext : (s.release st).nextWanting .aux = none := by
    simp [State.nextWanting, ring, hh, he, ha, h]
  have hlast : (s.release st).nextWanting (s.release st).wpa.lastOwner = none := hnext
  unfold State.settle State.arbitrate
  rw [hlast]
  rfl

/-- AUX, owner with no other requester waiting, keeps the port with its idle timer stopped. -/
theorem State.arbitrate_aux_alone (n : Nat) (s : State) (ha : s.wsc.access = none) (ho : s.wpa.owner = some .aux)
    (hg : s.wpa.guarantee ≠ .running 0) (hw : s.otherWants .aux = false) : s.arbitrate (n + 1) = s.stopIdle := by
  have hexp : s.expireOnRelease .aux = s := if_neg fun h => hg h.1
  simp [State.arbitrate, ha, ho, hexp, hw]

/-- With AREQ asserted AUX takes the first grant, and keeps the port with no timer but its guarantee running. -/
theorem State.release_settle_granted (s : State) (st : Straps) (h : s.amp.areq = true) :
    (s.release st).settle
      = { s.release st with wpa := { defaultWpa with owner := some .aux, guarantee := .running 32 } } := by
  obtain ⟨hh, he, ha⟩ := s.release_wants st
  have hnext : (s.release st).nextWanting (s.release st).wpa.lastOwner = some .aux := by
    show (s.release st).nextWanting .aux = _
    simp [State.nextWanting, ring, hh, he, ha, h]
  have hgrant : (s.release st).settle = State.arbitrate 7 ((s.release st).grant .aux) := by
    unfold State.settle State.arbitrate
    rw [hnext]
    rfl
  rw [hgrant, State.arbitrate_aux_alone 6 _ rfl rfl (show GuaranteeTimer.running 32 ≠ .running 0 by decide) rfl]
  rfl

/-- The state after the event of a release: the reset values, and the port with AUX where it asserts AREQ (R133). -/
def State.released (st : Straps) (s : State) : State :=
  { s.release st with wpa := { defaultWpa with
      owner := if s.amp.areq then some .aux else none
      guarantee := if s.amp.areq then .running 32 else .stopped } }

/-- The settling of the released state is that first grant, if any. -/
theorem State.release_settle (s : State) (st : Straps) : (s.release st).settle = s.released st := by
  unfold State.released
  cases h : s.amp.areq
  · exact s.release_settle_quiet st h
  · exact s.release_settle_granted st h

/-- A release of RESET while it is asserted. -/
theorem exec_resetRelease (s : State) (st : Straps) (h : s.inReset = true) :
    exec (.resetRelease st) s = .next (s.released st).drive := by
  rw [← State.release_settle]
  exact if_pos h

/-- Every cause is masked after the release. -/
theorem State.released_intLevel (s : State) (st : Straps) : (s.released st).intLevel = false := by
  have hmask : (s.released st).rpu.mask = 0#4 := rfl
  simp [State.intLevel, hmask]

/-- AGNT follows AREQ: AUX owns the port exactly where it asserts it. -/
theorem State.released_agntLevel (s : State) (st : Straps) : (s.released st).agntLevel = s.amp.areq := by
  have howner : (s.released st).wpa.owner = if s.amp.areq then some .aux else none := rfl
  have hareq : (s.released st).amp.areq = s.amp.areq := rfl
  have hreset : (s.released st).inReset = false := rfl
  have haccess : (s.released st).wsc.access = none := rfl
  unfold State.agntLevel
  rw [howner, hareq, hreset, haccess]
  cases s.amp.areq <;> rfl

/-- Table 1-7. -/
theorem bootSpanBlocks_eq (code : BitVec 2) :
    bootSpanBlocks code = if code = 0#2 then 0 else if code = 1#2 then 1 else if code = 2#2 then 2 else 4 := by
  revert code
  decide

/-- The default entry of a block with the store sizes of Table 6-7 written out (R14, R15). -/
theorem Straps.defaultRoute_eq (st : Straps) (b : Fin 64) :
    st.defaultRoute b =
      { mode := if (if st.winpos then 64 ≤ b.val + bootSpanBlocks st.bootspan else b.val < bootSpanBlocks st.bootspan)
          then .boot else .pass
        bootBase := BitVec.ofNat 24 (b.val * 0x40000 % (0x200000 * 2 ^ st.bsize.toNat))
        workBase := BitVec.ofNat 24 (b.val * 0x40000 % (0x200000 * 2 ^ st.wsize.toNat))
        faultAction := .record } := by
  obtain ⟨hw, hb⟩ := Straps.sizes_eq st
  unfold Straps.defaultRoute Straps.isBootBlock
  rw [hw, hb]
  cases st.winpos <;> simp [Config.blockBytes]

/-- Settles O60: the state after the release is `State.released`, whose fields are the reset values of R14 and its
neighbours. -/
theorem resetReleaseLoadsResetValues : Obligations.ResetReleaseLoadsResetValues := by
  intro st s hr
  obtain ⟨hwork, -⟩ := Straps.sizes_eq st
  refine ⟨(s.released st).drive, exec_resetRelease s st hr, rfl, rfl, rfl, rfl, fun b => ?routes, fun i => ?overlays,
    rfl, rfl, rfl, rfl, rfl, rfl, rfl, rfl, rfl, rfl, rfl, rfl, rfl, rfl, rfl, rfl, rfl, rfl, rfl, rfl, rfl, rfl, rfl,
    rfl, rfl, rfl, ?auxLimit, rfl, rfl, rfl, rfl, rfl, rfl, rfl, rfl, fun k => ?selects, rfl, rfl, rfl, rfl, rfl, rfl,
    rfl, rfl, s.released_intLevel st, s.released_agntLevel st, rfl, rfl, rfl, rfl⟩
  case routes =>
    show (Vector.ofFn st.defaultRoute)[b] = _
    rw [← bootSpanBlocks_eq, Fin.getElem_fin, Vector.getElem_ofFn, Straps.defaultRoute_eq]
  case overlays => exact Vector.getElem_ofFn _
  case auxLimit => exact congrArg (fun n => BitVec.ofNat 24 (n - 0x1000)) hwork
  case selects => exact Vector.getElem_ofFn _

end Sys2Proof.Machine
end

section
/-! PROOF. What a command can do to the configuration and the engine, said once: every command but the release of RESET
is a run of small moves. -/

namespace Sys2Proof.Machine

/-! ### The part of the state the routing and the engine's rules speak of -/

/-- The engine, the Routing Unit and the configuration of the other blocks: what the window, the tables, the lock, the
pin, the jobs and the map stand in. -/
structure Setup where
  txe         : Txe
  rtu         : Rtu
  auxBase     : Offset
  auxLimit    : Offset
  sdc         : Sdc
  portBase    : BitVec 16
  parityCheck : Bool
  straps      : Straps

/-- The setup of a state. -/
def State.setup (s : State) : Setup :=
  { txe := s.txe, rtu := s.rtu, auxBase := s.amp.windowBase, auxLimit := s.amp.windowLimit, sdc := s.sdc
    portBase := s.rgw.portBase, parityCheck := s.wsc.parityCheck, straps := s.straps }

/-- The engine after the activation of the job at the front of the queue, its target not refused: the block is pinned,
the map armed but for VERIFY, and the first line begun (R63, R65, R87, R89). -/
def State.activated (j : Job) (rest : List Job) (s : State) : State :=
  let a := j.activate s.rtu.routes[j.block]
  State.beginLine a { s with
    rtu := { s.rtu with pin := some j.block }
    txe := { s.txe with
      queue := rest
      map := if j.kind = .verify then s.txe.map else some (a.armedMap.scan s.hbi.buffer) } }

/-! ### Moves -/

/-- One change of the setup, with the check that guards it. Every command but the release of RESET is a run of these. -/
inductive State.Move (s : State) : State → Prop
  /-- The setup stays; anything else may change. -/
  | quiet (t : State) (h : t.setup = s.setup) : Move s t
  /-- A write marks the map (R88). -/
  | mark (off : Offset) (lanes : Lanes) : Move s (s.mark off lanes)
  /-- The line in progress passes to another stage (R66). -/
  | stage (st : LineStage) : Move s (s.setStage st)
  /-- The line in progress completes (R75). -/
  | line (r : LineResult) : Move s (s.completeLine r)
  /-- The job at the front of the queue becomes active (R63). -/
  | activate (j : Job) (rest : List Job) (hidle : s.txe.engine = .idle) (hq : s.txe.queue = j :: rest) :
    Move s (s.activated j rest)
  /-- Jobs leave the queue, or join it with legal fields (R58, R63, R82). -/
  | queue (q : List Job) (h : ∀ j ∈ q, j ∈ s.txe.queue ∨ j.Legal) : Move s { s with txe := { s.txe with queue := q } }
  /-- The engine's state changes and its active job does not (R79, R80). -/
  | engine (e : EngineState) (h : e.active = s.txe.engine.active) : Move s { s with txe := { s.txe with engine := e } }
  /-- The engine stops: no job, no map and no pin (R83, R85). -/
  | stop : Move s { s with txe := defaultTxe, rtu := { s.rtu with pin := none } }
  /-- An overlay entry is hit (R31). -/
  | hit (ov : Option (Fin 16)) : Move s { s with rtu := s.rtu.hit ov }
  /-- The hit counts are cleared. -/
  | clearHits : Move s { s with rtu := { s.rtu with
      overlays := Vector.ofFn fun i : Fin 16 => { s.rtu.overlays[i] with hits := 0#16 } } }
  /-- The window is replaced (R3). -/
  | window (base : HostAddr) (en : Bool) (hl : s.rtu.lock = false) (hv : base.toNat % Config.windowBytes = 0) :
    Move s { s with rtu := { s.rtu with windowBase := base, windowEnable := en } }
  /-- A routing entry is replaced (R19). -/
  | route (n : Nat) (h : n < 64) (e : RouteEntry) (hl : s.rtu.lock = false)
      (hv : validBase e.bootBase s.straps.bootSize = true ∧ validBase e.workBase s.straps.workSize = true) :
    Move s { s with rtu := { s.rtu with routes := s.rtu.routes.set n e h } }
  /-- An overlay entry is replaced (R35). -/
  | overlay (n : Nat) (h : n < 16) (e : OverlayEntry) (hl : s.rtu.lock = false)
      (hv : validPage e.workPage s.straps.workSize = true) :
    Move s { s with rtu := { s.rtu with overlays := s.rtu.overlays.set n e h } }
  /-- The routing lock is set (R23). -/
  | lock : Move s { s with rtu := { s.rtu with lock := true } }
  /-- The aux window is replaced (R131). -/
  | auxWindow (base limit : Offset) (hl : s.rtu.lock = false)
      (hv : validAuxWindow base limit s.straps.workSize = true) :
    Move s { s with amp := { s.amp with windowBase := base, windowLimit := limit } }
  /-- A select record is replaced (R157). -/
  | select (n : Nat) (h : n < 4) (r : SelectRecord) (hv : validRange r.space r.sizeCode r.base = true) :
    Move s { s with sdc := { s.sdc with records := s.sdc.records.set n r h } }
  /-- The port base is replaced (R171). -/
  | ports (p : BitVec 16) (hv : validPortBase p = true) : Move s { s with rgw := { s.rgw with portBase := p } }
  /-- The parity-check enable is replaced (R117). -/
  | parityCheck (on : Bool) (hv : on = true → s.straps.parity = true ∨ s.wsc.parityCheck = true) :
    Move s { s with wsc := { s.wsc with parityCheck := on } }

/-- A run of moves. -/
def State.Moves (s t : State) : Prop := Relation.ReflTransGen State.Move s t

theorem State.Move.moves {s t : State} (h : s.Move t) : s.Moves t := .single h

theorem State.Moves.trans {s t u : State} (h : s.Moves t) (k : t.Moves u) : s.Moves u := Relation.ReflTransGen.trans h k

theorem State.Moves.step {s t u : State} (h : s.Moves t) (k : t.Move u) : s.Moves u := Relation.ReflTransGen.tail h k

/-- A state with the same setup is reached. -/
theorem State.moves_of_setup {s t : State} (h : t.setup = s.setup) : s.Moves t := (State.Move.quiet t h).moves

theorem State.Moves.quiet {s t u : State} (h : s.Moves t) (e : u.setup = t.setup) : s.Moves u := h.step (.quiet u e)

/-- The state an event answers is reached where the state it ends in is: the outputs are no part of the setup. -/
theorem State.moves_of_done {s t u : State} (e : u.done = .next t) (h : s.Moves u) : s.Moves t := by
  simp only [State.done, Host.Outcome.next.injEq] at e
  subst e
  exact h.quiet rfl

/-- A property that every move keeps holds of every state a run of moves reaches. -/
theorem State.Moves.keeps {P : State → Prop} (hP : ∀ t u : State, P t → t.Move u → P u) {s t : State} (h : s.Moves t)
    (hs : P s) : P t := by
  induction h with
  | refl => exact hs
  | tail _ hm ih => exact hP _ _ ih hm

/-! ### Shared operations -/

/-- A write of the Work Store leaves the setup. -/
theorem State.writeWork_setup (off : Nat) (sel : Nat → Bool) (dat : Nat → Byte) (n : Nat) (s : State) :
    (s.writeWork off sel dat n).setup = s.setup := by
  have h := State.writeWork_butWork off sel dat n s
  unfold ButWork at h
  rw [h]
  rfl

/-- The settling of the port moves by stages and completed lines of the engine alone (R68, R69). -/
theorem State.Moves.settle {s t : State} (h : s.Moves t) : s.Moves t.settle := by
  refine State.arbitrate_keeps (fun u => s.Moves u) (fun u r hu => ?grant) (fun u o f hu => ?handover)
    (fun u o hu => ?expire) (fun u r hu => ?serve) (fun u i hu => hu.quiet rfl) 8 t h
  case grant => exact hu.quiet rfl
  case handover =>
    unfold State.handover
    repeat' split
    all_goals exact hu.quiet rfl
  case expire =>
    unfold State.expireOnRelease
    split
    all_goals exact hu.quiet rfl
  case serve =>
    cases r with
    | hostPath =>
      show s.Moves u.serveHost
      unfold State.serveHost
      repeat' split
      all_goals exact hu.quiet rfl
    | engine =>
      exact State.serveEngine_keeps (fun v => s.Moves v)
        (fun v a st hv => (hv.quiet (u := v.startAccess a) rfl).step (.stage st))
        (fun v hv => hv.step (.line .skipped)) _ u hu
    | aux => exact hu

/-- The Boot Store port passes on by a stage of the engine at most (R113). -/
theorem State.Moves.bootNext {s t : State} (h : s.Moves t) : s.Moves t.bootNext := by
  unfold State.bootNext
  split
  · exact h.quiet rfl
  · split
    · exact (h.quiet (u := { t with bsc := t.bsc.startEngine _ }) rfl).step (.stage _)
    · exact h.quiet rfl

/-- A job whose action is not applied writes no mode: its record is all it leaves (R76, R77). -/
theorem State.retire_unapplied (s : State) (a : ActiveJob) (o : JobOutcome) (q : Reason)
    (h : actionResult a.job.action o s.rtu.lock ≠ .applied) : s.retire a o q = s.offer (a.record o q s.rtu.lock) := by
  have hnot : s.settleAction a o = s := by
    unfold State.settleAction
    split
    · exact if_neg h
    · rfl
  rw [State.retire, hnot]

/-- The action of a job that is not DONE is not applied (Table 4-5). -/
theorem actionResult_failed (action : Option Mode) (lock : Bool) : actionResult action .failed lock ≠ .applied := by
  cases action <;> simp [actionResult]

/-- No action is applied under the lock (Table 4-5). -/
theorem actionResult_locked (action : Option Mode) (o : JobOutcome) : actionResult action o true ≠ .applied := by
  cases action <;> cases o <;> simp [actionResult]

/-- A completion record offered leaves the engine without an active job (R145). -/
theorem State.Moves.offer {s t : State} (h : s.Moves t) (r : CompletionRecord) (hn : t.txe.engine.active = none) :
    s.Moves (t.offer r) := by
  unfold State.offer
  split
  · exact (h.step (.engine .idle hn.symm)).quiet rfl
  · exact h.step (.engine (.retiring r) hn.symm)

/-! ### Host cycles -/

theorem State.endCycle_setup (s : State) (a : HostAnswer) : (s.endCycle a).setup = s.setup := rfl

theorem State.handFault_unless_setup (p : Prop) [Decidable p] (s : State) (f : FaultRecord) :
    (if p then s else s.handFault f).setup = s.setup := by
  split
  all_goals rfl

theorem State.endRefused_setup (s : State) (kind : FaultKind) (addr : HostAddr) (dir : Direction) (b : Fin 64)
    (fa : FaultAction) (data : Option LaneData) : (s.endRefused kind addr dir b fa data).setup = s.setup := by
  cases fa <;> rfl

theorem State.Moves.arriveWork {s t : State} (h : s.Moves t) (c : MemoryCycle) (off : Offset) (b : Fin 64)
    (ov : Option (Fin 16)) : s.Moves (t.arriveWork c off b ov) :=
  State.Moves.settle (h.quiet rfl)

theorem State.Moves.arrivePosted {s t : State} (h : s.Moves t) (c : MemoryCycle) (off : Offset) (b : Fin 64)
    (ov : Option (Fin 16)) : s.Moves (t.arrivePosted c off b ov) := by
  unfold State.arrivePosted
  dsimp only
  split
  · exact State.Moves.settle ((h.step (.mark off c.lanes)).quiet rfl)
  · exact State.Moves.settle (h.quiet rfl)

theorem State.Moves.arriveRoute {s t : State} (h : s.Moves t) (c : MemoryCycle) (r : Route) :
    s.Moves (t.arriveRoute c r) := by
  cases r with
  | notClaimed => exact h.quiet rfl
  | discard b fa => exact h.quiet (State.endRefused_setup ..)
  | closed b fa => exact h.quiet (State.endRefused_setup ..)
  | bootRead off b =>
    show s.Moves (t.arriveBootRead c off b)
    unfold State.arriveBootRead
    split
    all_goals exact h.quiet rfl
  | workRead off b ov => exact h.arriveWork c off b ov
  | workWrite off b ov =>
    show s.Moves (if t.hbi.postingEnable then _ else _)
    split
    · exact h.arrivePosted c off b ov
    · exact h.arriveWork c off b ov

theorem execHostMemoryCycleArrival_moves {c : MemoryCycle} {s t : State}
    (h : execHostMemoryCycleArrival c s = .next t) : s.Moves t := by
  unfold execHostMemoryCycleArrival at h
  split at h
  · cases h
  split at h
  · cases h
  split at h
  · exact State.moves_of_done h (State.moves_of_setup rfl)
  · have harrive (claimed : Bool) : s.Moves (s.arrive .memory (wordAddr c.ha) c.dir claimed) :=
      State.moves_of_setup rfl
    exact State.moves_of_done h ((harrive _).arriveRoute c _)

theorem execUnclaimedIoCycle_moves {dir : Direction} {c : IoCycle} {s t : State}
    (h : execUnclaimedIoCycle dir c s = .next t) : s.Moves t := by
  unfold execUnclaimedIoCycle at h
  split at h
  · cases h
  split at h
  · cases h
  split at h
  · exact State.moves_of_done h (State.moves_of_setup rfl)
  split at h
  · cases dir with
    | read => exact State.moves_of_done h (State.moves_of_setup rfl)
    | write => cases h
  · exact State.moves_of_done h (State.moves_of_setup rfl)

theorem execUnclaimedCycleEnd_moves {s t : State} (h : execUnclaimedCycleEnd s = .next t) : s.Moves t := by
  unfold execUnclaimedCycleEnd at h
  split at h
  · cases h
  · exact State.moves_of_done h (State.moves_of_setup rfl)

theorem execHostWaitTimeout_moves {s t : State} (h : execHostWaitTimeout s = .next t) : s.Moves t := by
  unfold execHostWaitTimeout at h
  split at h
  · cases h
  split at h
  · cases h
  split at h
  · cases h
  · exact State.moves_of_done h (.settle (State.moves_of_setup rfl))

theorem execHostBootReadComplete_moves {s t : State} (h : execHostBootReadComplete s = .next t) : s.Moves t := by
  unfold execHostBootReadComplete at h
  split at h
  · split at h
    · exact State.moves_of_done h (.bootNext (State.moves_of_setup rfl))
    · cases h
  · cases h

theorem execHostWorkReadComplete_moves {s t : State} (h : execHostWorkReadComplete s = .next t) : s.Moves t := by
  unfold execHostWorkReadComplete at h
  split at h
  · rename_i check c ha hc
    have hhit : s.Moves { s.endAccess with rtu := s.rtu.hit c.overlay } := (State.Move.hit c.overlay).moves.quiet rfl
    exact State.moves_of_done h
      (.settle (hhit.quiet ((State.endCycle_setup ..).trans (State.handFault_unless_setup ..))))
  · cases h

theorem execUnpostedWriteComplete_moves {s t : State} (h : execUnpostedWriteComplete s = .next t) : s.Moves t := by
  unfold execUnpostedWriteComplete at h
  split at h
  · rename_i c ha hc
    have hw : s.Moves (s.endAccess.writeLanes c.offset c.lanes c.data) :=
      State.moves_of_setup (State.writeWork_setup ..)
    exact State.moves_of_done h (.settle ((hw.step (.mark c.offset c.lanes)).quiet rfl))
  · cases h

theorem State.Moves.afterDrain {s t : State} (h : s.Moves t) : s.Moves t.afterDrain := by
  unfold State.afterDrain
  split
  · rename_i c hc
    split
    · exact (h.step (.mark c.offset c.lanes)).quiet rfl
    · split
      all_goals exact h.quiet rfl
    · exact h
  · exact h

theorem execDrainComplete_moves {s t : State} (h : execDrainComplete s = .next t) : s.Moves t := by
  unfold execDrainComplete at h
  split at h
  · rename_i e rest ha hb
    have hw : s.Moves (s.endAccess.writeLanes e.offset e.lanes e.data) :=
      State.moves_of_setup (State.writeWork_setup ..)
    exact State.moves_of_done h (.settle (.afterDrain (hw.quiet rfl)))
  · cases h

/-! ### The engine -/

theorem execActivation_moves {s t : State} (h : execActivation s = .next t) : s.Moves t := by
  unfold execActivation at h
  split at h
  · rename_i j rest hidle hq
    dsimp only at h
    split at h
    · have hpop : s.Moves { s with txe := { s.txe with queue := rest } } :=
        (State.Move.queue rest fun k hk => .inl (by rw [hq]; exact List.mem_cons_of_mem j hk)).moves
      rw [State.retire_unapplied _ _ _ _ (actionResult_failed _ _)] at h
      exact State.moves_of_done h (hpop.offer _ (by rw [hidle]; rfl))
    · exact State.moves_of_done h (.settle (State.Move.activate j rest hidle hq).moves)
  · cases h

theorem execEngineBootReadComplete_moves {s t : State} (h : execEngineBootReadComplete s = .next t) : s.Moves t := by
  unfold execEngineBootReadComplete at h
  split at h
  · split at h
    · split at h
      · exact State.moves_of_done h (.settle (.bootNext .refl))
      · exact State.moves_of_done h (.settle (.bootNext (State.Move.stage _).moves))
    · cases h
  · cases h

theorem execLineWriteComplete_moves {s t : State} (h : execLineWriteComplete s = .next t) : s.Moves t := by
  unfold execLineWriteComplete at h
  split at h
  · rename_i off data mask dropped ha
    have hw : s.Moves (s.endAccess.writeLine off mask data) := State.moves_of_setup (State.writeWork_setup ..)
    dsimp only at h
    split at h
    · exact State.moves_of_done h hw.settle
    · exact State.moves_of_done h (.settle (hw.step (.line _)))
  · cases h

theorem execVerifyReadComplete_moves {s t : State} (h : execVerifyReadComplete s = .next t) : s.Moves t := by
  have he : s.Moves s.endAccess := State.moves_of_setup rfl
  unfold execVerifyReadComplete at h
  split at h
  · split at h
    · exact State.moves_of_done h he.settle
    split at h
    · split at h
      · split at h
        · rename_i f hf
          exact State.moves_of_done h (.settle ((he.quiet (u := s.endAccess.handFault f) rfl).step (.line _)))
        · exact State.moves_of_done h (.settle (he.step (.line _)))
      · cases h
    · cases h
  · cases h

/-! ### The arbiter and the auxiliary port -/

theorem State.countWait_setup (r : Requester) (s : State) : (s.countWait r).setup = s.setup := by
  unfold State.countWait
  split
  all_goals rfl

theorem State.handover_setup (o : Requester) (forfeit : Bool) (s : State) : (s.handover o forfeit).setup = s.setup := by
  unfold State.handover
  repeat' split
  all_goals rfl

/-- A tick changes the arbiter's block, and what the settling of the port serves. -/
theorem State.tick_moves (s : State) : s.Moves s.tick := by
  have hcount : s.countWaits.setup = s.setup := by
    unfold State.countWaits
    rw [State.countWait_setup, State.countWait_setup, State.countWait_setup]
  unfold State.tick
  dsimp only
  split
  · exact .settle (State.moves_of_setup ((State.handover_setup ..).trans hcount))
  · exact .settle (State.moves_of_setup hcount)

theorem execGuaranteeExpiry_moves {s t : State} (h : execGuaranteeExpiry s = .next t) : s.Moves t := by
  unfold execGuaranteeExpiry at h
  split at h
  · exact State.moves_of_done h s.tick_moves
  · cases h

theorem execIdleExpiry_moves {s t : State} (h : execIdleExpiry s = .next t) : s.Moves t := by
  unfold execIdleExpiry at h
  split at h
  · exact State.moves_of_done h s.tick_moves
  · cases h

theorem State.resumeAux_setup (s : State) : s.resumeAux.setup = s.setup := by
  unfold State.resumeAux
  split
  all_goals rfl

theorem execAreqAssert_moves {s t : State} (h : execAreqAssert s = .next t) : s.Moves t := by
  unfold execAreqAssert at h
  split at h
  · cases h
  dsimp only at h
  split at h
  · exact State.moves_of_done h (State.moves_of_setup rfl)
  · exact State.moves_of_done h (.settle (State.moves_of_setup (State.resumeAux_setup _)))

theorem execAreqDeassert_moves {s t : State} (h : execAreqDeassert s = .next t) : s.Moves t := by
  unfold execAreqDeassert at h
  split at h
  · cases h
  dsimp only at h
  split at h
  · exact State.moves_of_done h (State.moves_of_setup rfl)
  · exact State.moves_of_done h (.settle (State.moves_of_setup rfl))

theorem execAuxCycleStart_moves {c : AuxRequest} {s t : State} (h : execAuxCycleStart c s = .next t) : s.Moves t := by
  unfold execAuxCycleStart at h
  split at h
  · cases h
  split at h
  · exact State.moves_of_done h (State.moves_of_setup rfl)
  split at h
  · dsimp only at h
    repeat' split at h
    all_goals exact State.moves_of_done h (State.moves_of_setup rfl)
  · cases h

theorem State.Moves.auxEffect {s t : State} (h : s.Moves t) (c : AuxCycle) (check : Bool) :
    s.Moves (t.auxEffect c check).1 := by
  unfold State.auxEffect
  split
  · exact (h.quiet (u := t.writeLanes c.offset c.lanes c.data) (State.writeWork_setup ..)).step (.mark c.offset c.lanes)
  · exact h.quiet (State.handFault_unless_setup ..)

theorem execAuxAccessComplete_moves {s t : State} (h : execAuxAccessComplete s = .next t) : s.Moves t := by
  unfold execAuxAccessComplete at h
  split at h
  · rename_i check c ha hc
    have hend : s.Moves s.endAccess := State.moves_of_setup rfl
    exact State.moves_of_done h (.settle ((hend.auxEffect c check).quiet rfl))
  · cases h

theorem execAstbDrop_moves {s t : State} (h : execAstbDrop s = .next t) : s.Moves t := by
  unfold execAstbDrop at h
  split at h
  · cases h
  · exact State.moves_of_done h (State.moves_of_setup rfl)

theorem execAstbAssertionDuringAccess_moves {s t : State} (h : execAstbAssertionDuringAccess s = .next t) :
    s.Moves t := by
  unfold execAstbAssertionDuringAccess at h
  split at h
  · split at h
    · cases h
    · exact State.moves_of_done h (State.moves_of_setup rfl)
  · cases h

/-! ### The assertion of RESET -/

/-- An abandoned access writes the Work Store at most. -/
theorem State.abandonAccess_setup (s : State) : s.abandonAccess.setup = s.setup := by
  unfold State.abandonAccess
  split
  · split
    · exact State.writeWork_setup ..
    · rfl
  · split
    · exact State.writeWork_setup ..
    · rfl
  · exact State.writeWork_setup ..
  · split
    · split
      · exact State.writeWork_setup ..
      · rfl
    · rfl
  all_goals rfl

theorem execResetAssert_moves {s t : State} (h : execResetAssert s = .next t) : s.Moves t := by
  unfold execResetAssert at h
  split at h
  · cases h
  · have habandon : s.Moves s.abandonAccess := State.moves_of_setup s.abandonAccess_setup
    exact State.moves_of_done h (((habandon.step .stop).step .clearHits).quiet rfl)

/-! ### Register window writes -/

/-- A data port write moves as the row's effect does, once the cycle has opened. -/
theorem State.dataWrite_moves {s t : State} {c : IoCycle} {mine : Byte → Byte → Bool}
    {effect : Byte → Byte → State → State} (h : s.dataWrite c mine effect = .next t)
    (heff : ∀ i b u, State.Moves u (effect i b u)) : s.Moves t := by
  obtain ⟨i, b, -, -, rfl⟩ := State.dataWrite_next s t c mine effect h
  have hopen : s.Moves (s.openIo c) := State.moves_of_setup rfl
  exact (hopen.trans (heff i b _)).quiet rfl

/-- A command moves as its block's rule does. -/
theorem State.command_moves {s t : State} {c : IoCycle} {mine : Byte → Bool} {run : State → Reply}
    (h : s.command c mine run = .next t) (hrun : ∀ u, State.Moves u (run u).state) : s.Moves t :=
  State.dataWrite_moves h fun _ _ u => (hrun u).quiet rfl

theorem execIndexPortWrite_moves {c : IoCycle} {s t : State} (h : execIndexPortWrite c s = .next t) : s.Moves t := by
  unfold execIndexPortWrite at h
  split at h
  · cases h
  split at h
  · exact State.moves_of_done h (State.moves_of_setup rfl)
  · cases h

theorem execParityCheckEnableWrite_moves {c : IoCycle} {s t : State} (h : execParityCheckEnableWrite c s = .next t) :
    s.Moves t := by
  refine State.dataWrite_moves h fun _ b u => (State.Move.parityCheck _ fun hon => ?_).moves
  unfold parityCheckAfter at hon
  split at hon
  · exact .inl hon
  · cases hon
  · exact .inr hon

theorem execRegisterWrite_moves {c : IoCycle} {s t : State} (h : execRegisterWrite c s = .next t) : s.Moves t := by
  refine State.dataWrite_moves h fun i b u => ?_
  split
  all_goals exact State.moves_of_setup rfl

/-! ### Commands -/

theorem State.runSetWindow_moves (u : State) : u.Moves u.runSetWindow.state := by
  unfold State.runSetWindow
  split
  · exact .refl
  rename_i hl
  split
  · rename_i en hen
    split
    · rename_i hv
      exact (State.Move.window _ en (by simpa using hl) hv).moves
    · exact .refl
  · exact .refl

theorem State.runCommitRoute_moves (u : State) : u.Moves u.runCommitRoute.state := by
  unfold State.runCommitRoute
  split
  · rename_i hn
    split
    · exact .refl
    rename_i hl
    split
    · exact .refl
    split
    · rename_i e he
      obtain ⟨-, hv⟩ := RouteStaging.entry?_eq_some he
      exact (State.Move.route _ hn e (by simpa using hl) hv).moves
    · exact .refl
  · exact .refl

/-- What the overlay staging record stages has a valid Work page (R34). -/
theorem OverlayStaging.entry?_validPage {r : OverlayStaging} {st : Straps} {e : OverlayEntry}
    (h : r.entry? st = some e) : validPage e.workPage st.workSize = true := by
  unfold OverlayStaging.entry? at h
  split at h
  · split at h
    · rename_i hv
      simp only [Bool.and_eq_true] at hv
      simp only [Option.some.injEq] at h
      subst h
      exact hv.2
    · cases h
  · cases h

theorem State.runCommitOverlay_moves (u : State) : u.Moves u.runCommitOverlay.state := by
  unfold State.runCommitOverlay
  split
  · rename_i hn
    split
    · exact .refl
    rename_i hl
    split
    · rename_i e he
      exact (State.Move.overlay _ hn e (by simpa using hl) (OverlayStaging.entry?_validPage he)).moves
    · exact .refl
  · exact .refl

/-- What the select staging record stages has a valid range (R157). -/
theorem SelectStaging.record?_validRange {r : SelectStaging} {e : SelectRecord} (h : r.record? = some e) :
    validRange e.space e.sizeCode e.base = true := by
  unfold SelectStaging.record? at h
  split at h
  · split at h
    · rename_i hv
      simp only [Option.some.injEq] at h
      subst h
      exact hv
    · cases h
  · cases h

theorem State.runCommitSelect_moves (u : State) : u.Moves u.runCommitSelect.state := by
  unfold State.runCommitSelect
  split
  · rename_i hn
    split
    · rename_i r hr
      exact (State.Move.select _ hn r (SelectStaging.record?_validRange hr)).moves
    · exact .refl
  · exact .refl

theorem State.runLoadRoute_moves (u : State) : u.Moves u.runLoadRoute.state := by
  unfold State.runLoadRoute
  split
  all_goals exact State.moves_of_setup rfl

theorem State.runLoadOverlay_moves (u : State) : u.Moves u.runLoadOverlay.state := by
  unfold State.runLoadOverlay
  split
  all_goals exact State.moves_of_setup rfl

theorem State.runLoadSelect_moves (u : State) : u.Moves u.runLoadSelect.state := by
  unfold State.runLoadSelect
  split
  all_goals exact State.moves_of_setup rfl

/-- What the job staging record stages has legal fields (R58). -/
theorem JobStaging.job?_legal {r : JobStaging} {j : Job} (h : r.job? = some j) : j.Legal := by
  unfold JobStaging.job? at h
  split at h
  · split at h
    · split at h
      · rename_i hv
        obtain ⟨-, hcount, -, hend, hlimit⟩ := hv
        simp only [Option.some.injEq] at h
        subst h
        exact ⟨hcount, hend, hlimit⟩
      · cases h
    · cases h
  · cases h

theorem State.runSubmitJob_moves (u : State) : u.Moves u.runSubmitJob.state := by
  unfold State.runSubmitJob
  split
  · exact .refl
  split
  · rename_i j hj
    refine (State.Move.queue _ fun k hk => ?_).moves
    rcases List.mem_append.mp hk with hold | hnew
    · exact .inl hold
    · rw [List.mem_singleton.mp hnew]
      exact .inr (JobStaging.job?_legal hj)
  · exact .refl

theorem State.runAbortActive_moves (u : State) : u.Moves u.runAbortActive.state := by
  unfold State.runAbortActive
  split
  · rename_i a ha
    exact (State.Move.engine (.draining a) (by rw [ha]; rfl)).moves
  all_goals exact .refl

theorem State.runFlushQueued_moves (u : State) : u.Moves u.runFlushQueued.state :=
  (State.Move.queue [] (by simp)).moves

theorem State.runEngineReset_moves (u : State) : u.Moves u.runEngineReset.state :=
  .settle (State.Moves.quiet (State.Move.stop (s := u)).moves rfl)

theorem State.runSetAuxWindow_moves (u : State) : u.Moves u.runSetAuxWindow.state := by
  unfold State.runSetAuxWindow
  dsimp only
  split
  · exact .refl
  rename_i hl
  split
  · rename_i hv
    exact (State.Move.auxWindow _ _ (by simpa using hl) hv).moves
  · exact .refl

theorem State.runPopFault_moves (u : State) : u.Moves u.runPopFault.state := by
  unfold State.runPopFault
  split
  all_goals exact State.moves_of_setup rfl

theorem State.runPopCompletion_moves (u : State) : u.Moves u.runPopCompletion.state := by
  unfold State.runPopCompletion
  split
  · exact .refl
  split
  · rename_i r hr
    exact (State.Move.engine .idle (by rw [hr]; rfl)).moves.quiet rfl
  · exact State.moves_of_setup rfl

theorem State.runSetPorts_moves (u : State) : u.Moves u.runSetPorts.state := by
  unfold State.runSetPorts
  split
  · rename_i hv
    exact (State.Move.ports _ hv).moves
  · exact .refl

/-! ### Every command -/

/-- Every command but the release of RESET is a run of moves: what a command can do to the setup, said once. -/
theorem exec_moves {i : Instr} {s t : State} (hi : ∀ st, i ≠ .resetRelease st) (h : exec i s = .next t) :
    s.Moves t := by
  have quiet {u v : State} (e : v.setup = u.setup) : u.Moves v := State.moves_of_setup e
  cases i with
  | hostMemoryCycleArrival c => exact execHostMemoryCycleArrival_moves h
  | unclaimedIoCycle dir c => exact execUnclaimedIoCycle_moves h
  | unclaimedCycleEnd => exact execUnclaimedCycleEnd_moves h
  | hostWaitTimeout => exact execHostWaitTimeout_moves h
  | hostBootReadComplete => exact execHostBootReadComplete_moves h
  | hostWorkReadComplete => exact execHostWorkReadComplete_moves h
  | unpostedWriteComplete => exact execUnpostedWriteComplete_moves h
  | drainComplete => exact execDrainComplete_moves h
  | activation => exact execActivation_moves h
  | engineBootReadComplete => exact execEngineBootReadComplete_moves h
  | lineWriteComplete => exact execLineWriteComplete_moves h
  | verifyReadComplete => exact execVerifyReadComplete_moves h
  | arbiterTick => exact State.moves_of_done h s.tick_moves
  | guaranteeExpiry => exact execGuaranteeExpiry_moves h
  | idleExpiry => exact execIdleExpiry_moves h
  | areqAssert => exact execAreqAssert_moves h
  | areqDeassert => exact execAreqDeassert_moves h
  | auxCycleStart c => exact execAuxCycleStart_moves h
  | auxAccessComplete => exact execAuxAccessComplete_moves h
  | astbDrop => exact execAstbDrop_moves h
  | astbAssertionDuringAccess => exact execAstbAssertionDuringAccess_moves h
  | resetAssert => exact execResetAssert_moves h
  | resetRelease st => exact absurd rfl (hi st)
  | indexPortWrite c => exact execIndexPortWrite_moves h
  | parityCheckEnableWrite c => exact execParityCheckEnableWrite_moves h
  | registerWrite c => exact execRegisterWrite_moves h
  | stagingWrite c =>
    exact State.dataWrite_moves (show execStagingWrite c s = .next t from h) fun _ _ _ => quiet rfl
  | postingEnableWrite c =>
    exact State.dataWrite_moves (show execPostingEnableWrite c s = .next t from h) fun _ _ _ => quiet rfl
  | hostWaitLimitWrite c =>
    exact State.dataWrite_moves (show execHostWaitLimitWrite c s = .next t from h) fun _ _ _ => quiet rfl
  | parityTerminationWrite c =>
    exact State.dataWrite_moves (show execParityTerminationWrite c s = .next t from h) fun _ _ _ => quiet rfl
  | bootAccessTimeWrite c =>
    exact State.dataWrite_moves (show execBootAccessTimeWrite c s = .next t from h) fun _ _ _ => quiet rfl
  | guaranteeWrite c =>
    exact State.dataWrite_moves (show execGuaranteeWrite c s = .next t from h) fun _ _ _ => quiet rfl
  | idleWindowWrite c =>
    exact State.dataWrite_moves (show execIdleWindowWrite c s = .next t from h) fun _ _ _ => quiet rfl
  | interruptMaskWrite c =>
    exact State.dataWrite_moves (show execInterruptMaskWrite c s = .next t from h) fun _ _ _ => quiet rfl
  | setWindow c => exact State.command_moves h State.runSetWindow_moves
  | commitRoute c => exact State.command_moves h State.runCommitRoute_moves
  | loadRoute c => exact State.command_moves h State.runLoadRoute_moves
  | lockRouting c => exact State.command_moves h fun _ => State.Move.lock.moves
  | commitOverlay c => exact State.command_moves h State.runCommitOverlay_moves
  | loadOverlay c => exact State.command_moves h State.runLoadOverlay_moves
  | submitJob c => exact State.command_moves h State.runSubmitJob_moves
  | abortActive c => exact State.command_moves h State.runAbortActive_moves
  | flushQueued c => exact State.command_moves h State.runFlushQueued_moves
  | engineReset c => exact State.command_moves h State.runEngineReset_moves
  | monitorStart c => exact State.command_moves h fun _ => quiet rfl
  | monitorStop c => exact State.command_moves h fun _ => quiet rfl
  | snapshotMonitor c => exact State.command_moves h fun _ => quiet rfl
  | setAuxWindow c => exact State.command_moves h State.runSetAuxWindow_moves
  | popFault c => exact State.command_moves h State.runPopFault_moves
  | clearOverflow c => exact State.command_moves h fun _ => quiet rfl
  | popCompletion c => exact State.command_moves h State.runPopCompletion_moves
  | commitSelect c => exact State.command_moves h State.runCommitSelect_moves
  | loadSelect c => exact State.command_moves h State.runLoadSelect_moves
  | setPorts c => exact State.command_moves h State.runSetPorts_moves
  | unknownCommand c => exact State.command_moves (show execUnknownCommand c s = .next t from h) fun _ => .refl

end Sys2Proof.Machine
end

section
/-! PROOF. The properties every move keeps: the configuration (O9), the engine, its pin and its map (O10), and the frozen
routing (O15). -/

namespace Sys2Proof.Machine

/-! ### From moves to steps -/

/-- A release of RESET answers a next state only while RESET is asserted. -/
theorem exec_resetRelease_next {s t : State} {st : Straps} (h : exec (.resetRelease st) s = .next t) :
    t = (s.released st).drive := by
  by_cases hr : s.inReset = true
  · rw [exec_resetRelease s st hr, Host.Outcome.next.injEq] at h
    exact h.symm
  · rw [show exec (.resetRelease st) s = .refused .notDue from if_neg hr] at h
    cases h

/-- A property that every move keeps and every release of RESET establishes is kept by every step. -/
theorem step_keeps {P : State → Prop} (hmove : ∀ u v : State, P u → u.Move v → P v)
    (hrelease : ∀ (u : State) (st : Straps), P (u.released st).drive) {s t : State} (hs : P s) (h : step s = .next t) :
    P t := by
  unfold step at h
  split at h
  · cases h
    exact hs
  · rename_i c rest _
    have hpop : P { s with pending := rest } := hmove s _ hs (.quiet _ rfl)
    by_cases hc : ∃ st, c = .resetRelease st
    · obtain ⟨st, rfl⟩ := hc
      rw [exec_resetRelease_next h]
      exact hrelease _ st
    · exact (exec_moves (fun st e => hc ⟨st, e⟩) h).keeps hmove hpop

/-! ### Entries after an update of their table -/

/-- A mode written into a block's entry leaves the bases of every entry (R22). -/
theorem Rtu.setMode_bases (r : Rtu) (b : Fin 64) (m : Mode) (k : Fin 64) :
    (r.setMode b m).routes[k].bootBase = r.routes[k].bootBase
      ∧ (r.setMode b m).routes[k].workBase = r.routes[k].workBase := by
  by_cases hk : b = k
  · subst hk
    simp [Rtu.setMode]
  · have hv : b.val ≠ k.val := fun e => hk (Fin.ext e)
    simp [Rtu.setMode, hv]

/-- A hit changes no overlay entry but for its hit count (R31). -/
theorem Rtu.hit_overlay (r : Rtu) (ov : Option (Fin 16)) (k : Fin 16) :
    ∃ n, (r.hit ov).overlays[k] = { r.overlays[k] with hits := n } := by
  cases ov with
  | none => exact ⟨_, rfl⟩
  | some i =>
    by_cases hk : i = k
    · subst hk
      exact ⟨advance r.overlays[i].hits, by simp [Rtu.hit]⟩
    · have hv : i.val ≠ k.val := fun e => hk (Fin.ext e)
      exact ⟨r.overlays[k].hits, by simp [Rtu.hit, hv]⟩

/-- Clearing the hit counts changes no overlay entry otherwise. -/
theorem Rtu.clearHits_overlay (r : Rtu) (k : Fin 16) :
    (Vector.ofFn fun i : Fin 16 => { r.overlays[i] with hits := 0#16 })[k] = { r.overlays[k] with hits := 0#16 } := by
  simp

/-! ### The configuration -/

/-- The window base, the bases of the routes and the Work pages of the overlays are valid for the straps. -/
def Rtu.Valid (r : Rtu) (st : Straps) : Prop :=
  r.windowBase.toNat % Config.windowBytes = 0
    ∧ (∀ b : Fin 64, validBase r.routes[b].bootBase st.bootSize = true
        ∧ validBase r.routes[b].workBase st.workSize = true)
    ∧ (∀ i : Fin 16, validPage r.overlays[i].workPage st.workSize = true)

theorem State.configValid_iff (s : State) :
    s.ConfigValid ↔ s.rtu.Valid s.straps
      ∧ validAuxWindow s.amp.windowBase s.amp.windowLimit s.straps.workSize = true
      ∧ (∀ k : Fin 4, validRange s.sdc.records[k].space s.sdc.records[k].sizeCode s.sdc.records[k].base = true)
      ∧ validPortBase s.rgw.portBase = true
      ∧ (s.wsc.parityCheck = true → s.straps.parity = true) := by
  unfold State.ConfigValid Rtu.Valid
  simp only [and_assoc]

/-- Where only the engine and the Routing Unit differ, the configuration stays valid if the Routing Unit's part does. -/
theorem State.ConfigValid.of_rtu {s t : State} (h : s.ConfigValid)
    (hrest : { t.setup with txe := s.txe, rtu := s.rtu } = s.setup)
    (hrtu : s.rtu.Valid s.straps → t.rtu.Valid s.straps) : t.ConfigValid := by
  simp only [State.setup, Setup.mk.injEq, true_and] at hrest
  obtain ⟨hbase, hlimit, hsdc, hport, hparity, hstraps⟩ := hrest
  rw [State.configValid_iff] at h ⊢
  rw [hbase, hlimit, hsdc, hport, hparity, hstraps]
  exact ⟨hrtu h.1, h.2⟩

theorem Rtu.Valid.setMode {r : Rtu} {st : Straps} (h : r.Valid st) (b : Fin 64) (m : Mode) :
    (r.setMode b m).Valid st := by
  obtain ⟨hwindow, hroutes, hoverlays⟩ := h
  refine ⟨hwindow, fun k => ?_, hoverlays⟩
  obtain ⟨hboot, hwork⟩ := r.setMode_bases b m k
  rw [hboot, hwork]
  exact hroutes k

theorem Rtu.Valid.hit {r : Rtu} {st : Straps} (h : r.Valid st) (ov : Option (Fin 16)) : (r.hit ov).Valid st := by
  obtain ⟨hwindow, hroutes, hoverlays⟩ := h
  have hsame : (r.hit ov).windowBase = r.windowBase ∧ (r.hit ov).routes = r.routes := by
    cases ov <;> exact ⟨rfl, rfl⟩
  refine ⟨by rw [hsame.1]; exact hwindow, by rw [hsame.2]; exact hroutes, fun k => ?_⟩
  obtain ⟨n, hn⟩ := r.hit_overlay ov k
  rw [hn]
  exact hoverlays k

/-- A vector with one element replaced has a property of all elements that the old one and the new element have. -/
theorem forall_getElem_set {α : Type} {n : Nat} {v : Vector α n} {p : α → Prop} (hv : ∀ k : Fin n, p v[k]) (i : Nat)
    (hi : i < n) (x : α) (hx : p x) (k : Fin n) : p (v.set i x hi)[k] := by
  rw [Fin.getElem_fin, Vector.getElem_set]
  split
  · exact hx
  · exact hv k

theorem State.ConfigValid.beginLine {s : State} (h : s.ConfigValid) (a : ActiveJob) : (s.beginLine a).ConfigValid := by
  unfold State.beginLine
  dsimp only
  repeat' split
  all_goals exact h.of_rtu rfl id

theorem State.ConfigValid.jobEnd {s : State} (h : s.ConfigValid) (a : ActiveJob) (o : JobOutcome) (q : Reason) :
    (s.jobEnd a o q).ConfigValid := by
  have hoffer : ∀ (u : State) (r : CompletionRecord), u.ConfigValid → (u.offer r).ConfigValid := by
    intro u r hu
    unfold State.offer
    split
    all_goals exact hu.of_rtu rfl id
  have hsettle : ∀ u : State, u.ConfigValid → (u.settleAction a o).ConfigValid := by
    intro u hu
    unfold State.settleAction
    repeat' split
    · exact hu.of_rtu rfl fun hr => hr.setMode _ _
    all_goals exact hu
  exact hoffer _ _ (hsettle _ (h.of_rtu rfl id))

/-- Every move keeps the configuration valid. -/
theorem State.ConfigValid.move {s t : State} (h : s.ConfigValid) (m : s.Move t) : t.ConfigValid := by
  cases m with
  | quiet _ hq =>
    have hrtu : t.rtu = s.rtu := congrArg Setup.rtu hq
    exact h.of_rtu (by rw [hq]; rfl) (by rw [hrtu]; exact id)
  | mark | stage | queue | engine | stop | lock => exact h.of_rtu rfl id
  | line r => exact State.completeLine_keeps State.ConfigValid s r h h.beginLine h.jobEnd
  | activate j rest =>
    unfold State.activated
    refine State.ConfigValid.beginLine ?_ _
    exact h.of_rtu rfl id
  | hit ov => exact h.of_rtu rfl fun hr => hr.hit ov
  | clearHits =>
    refine h.of_rtu rfl fun ⟨hwindow, hroutes, hoverlays⟩ => ⟨hwindow, hroutes, fun k => ?_⟩
    rw [s.rtu.clearHits_overlay k]
    exact hoverlays k
  | window base en _ hv => exact h.of_rtu rfl fun ⟨_, hroutes, hoverlays⟩ => ⟨hv, hroutes, hoverlays⟩
  | route n hn e _ hv =>
    exact h.of_rtu rfl fun ⟨hwindow, hroutes, hoverlays⟩ =>
      ⟨hwindow, forall_getElem_set (p := fun e : RouteEntry => validBase e.bootBase s.straps.bootSize = true
        ∧ validBase e.workBase s.straps.workSize = true) hroutes n hn e hv, hoverlays⟩
  | overlay n hn e _ hv =>
    exact h.of_rtu rfl fun ⟨hwindow, hroutes, hoverlays⟩ =>
      ⟨hwindow, hroutes, forall_getElem_set (p := fun e : OverlayEntry => validPage e.workPage s.straps.workSize = true)
        hoverlays n hn e hv⟩
  | auxWindow base limit _ hv =>
    obtain ⟨hrtu, -, hrest⟩ := s.configValid_iff.mp h
    exact (State.configValid_iff _).mpr ⟨hrtu, hv, hrest⟩
  | select n hn r hv =>
    obtain ⟨hrtu, haux, hsel, hrest⟩ := s.configValid_iff.mp h
    exact (State.configValid_iff _).mpr ⟨hrtu, haux,
      forall_getElem_set (p := fun r : SelectRecord => validRange r.space r.sizeCode r.base = true) hsel n hn r hv,
      hrest⟩
  | ports p hv =>
    obtain ⟨hrtu, haux, hsel, -, hparity⟩ := s.configValid_iff.mp h
    exact (State.configValid_iff _).mpr ⟨hrtu, haux, hsel, hv, hparity⟩
  | parityCheck on hv =>
    obtain ⟨hrtu, haux, hsel, hport, hparity⟩ := s.configValid_iff.mp h
    exact (State.configValid_iff _).mpr ⟨hrtu, haux, hsel, hport, fun hon => (hv hon).elim id hparity⟩

/-- Table 6-7. -/
theorem Config.storeSize_cases (code : BitVec 2) :
    Config.storeSize code = 0x200000 ∨ Config.storeSize code = 0x400000 ∨ Config.storeSize code = 0x800000
      ∨ Config.storeSize code = 0x1000000 := by
  revert code
  decide

/-- The default base of a block, wrapped at the size of its store, is valid for it (R14). -/
theorem validBase_default (n : Nat) (code : BitVec 2) :
    validBase (BitVec.ofNat 24 (n * Config.blockBytes % Config.storeSize code)) (Config.storeSize code) = true := by
  rw [validBase_iff, BitVec.toNat_ofNat]
  unfold Config.blockBytes
  rcases Config.storeSize_cases code with h | h | h | h
  all_goals
    rw [h]
    omega

/-- The reset values of the Routing Unit are valid for every straps (R1, R14, R25). -/
theorem Straps.rtu_valid (st : Straps) : st.rtu.Valid st := by
  refine ⟨?window, fun b => ?bases, fun i => ?pages⟩
  case window =>
    show st.windowBase.toNat % Config.windowBytes = 0
    unfold Straps.windowBase
    cases st.winpos <;> decide
  case bases =>
    have hroute : st.rtu.routes[b] = st.defaultRoute b := Vector.getElem_ofFn _
    rw [hroute]
    exact ⟨validBase_default b.val st.bsize, validBase_default b.val st.wsize⟩
  case pages =>
    have hoverlay : st.rtu.overlays[i] = defaultOverlay := Vector.getElem_ofFn _
    have hpos : 0 < st.workSize := by
      show 0 < Config.storeSize st.wsize
      rcases Config.storeSize_cases st.wsize with h | h | h | h
      all_goals omega
    simpa [hoverlay, validPage, defaultOverlay] using hpos

/-- After reset the aux window is the whole Work Store (R121). -/
theorem Straps.aux_valid (st : Straps) :
    validAuxWindow 0#24 (BitVec.ofNat 24 (st.workSize - Config.pageBytes)) st.workSize = true := by
  have hsize : st.workSize = 0x200000 * 2 ^ st.wsize.toNat := (Straps.sizes_eq st).1
  rw [validAuxWindow_iff, ← hsize, BitVec.toNat_ofNat]
  unfold Straps.workSize Config.pageBytes
  rcases Config.storeSize_cases st.wsize with h | h | h | h
  all_goals
    rw [h]
    decide

theorem State.released_configValid (s : State) (st : Straps) : (s.released st).drive.ConfigValid := by
  refine (State.configValid_iff _).mpr
    ⟨Straps.rtu_valid st, Straps.aux_valid st, fun k => ?selects, ?ports, fun h => ?parity⟩
  case selects =>
    have hrecord : (s.released st).drive.sdc.records[k] = defaultSelect := Vector.getElem_ofFn _
    rw [hrecord]
    decide
  case ports =>
    show validPortBase (if st.portsel then 0x1D4#16 else 0x2D4#16) = true
    cases st.portsel <;> decide
  case parity => cases h

/-- Settles O9: every move checks what it puts into the configuration, and the reset values are valid. -/
theorem stepKeepsConfigValid : Obligations.StepKeepsConfigValid :=
  fun _ _ hs h => step_keeps (fun _ _ => State.ConfigValid.move) State.released_configValid hs h

/-! ### The engine, its pin and its map -/

/-- An active job with what it holds: legal fields and counts, its block pinned, and its map (R21, R86). -/
def ActiveJob.Holds (a : ActiveJob) (pin : Option (Fin 64)) (map : Option ByteMap) : Prop :=
  a.job.Legal ∧ a.Counted ∧ pin = some a.job.block ∧ a.HasMap map

/-- The engine legal with an active job. -/
theorem State.engineLegal_iff_active {s : State} {a : ActiveJob} (ha : s.txe.engine.active = some a) :
    s.EngineLegal ↔ (∀ j ∈ s.txe.queue, j.Legal) ∧ a.Holds s.rtu.pin s.txe.map := by
  unfold State.EngineLegal ActiveJob.Holds
  rw [ha]

/-- The engine legal without an active job. -/
theorem State.engineLegal_iff_inactive {s : State} (hn : s.txe.engine.active = none) :
    s.EngineLegal ↔ (∀ j ∈ s.txe.queue, j.Legal) ∧ s.rtu.pin = none ∧ s.txe.map = none := by
  unfold State.EngineLegal
  rw [hn]

/-- The engine's legality is about its queue, its active job, its map and its pin alone. -/
theorem State.engineLegal_of_eq {s t : State} (h : s.EngineLegal) (hq : t.txe.queue = s.txe.queue)
    (he : t.txe.engine.active = s.txe.engine.active) (hm : t.txe.map = s.txe.map) (hp : t.rtu.pin = s.rtu.pin) :
    t.EngineLegal := by
  unfold State.EngineLegal at h ⊢
  rw [hq, he, hm, hp]
  exact h

/-- A map keeps its range when it is marked. -/
theorem ActiveJob.HasMap.of_range {a : ActiveJob} {map : Option ByteMap} {f : ByteMap → ByteMap} (h : a.HasMap map)
    (hf : ∀ m, (f m).start = m.start ∧ (f m).lines = m.lines) : a.HasMap (map.map f) := by
  unfold ActiveJob.HasMap at h ⊢
  split
  · rename_i hv
    rw [if_pos hv] at h
    rw [h]
    rfl
  · rename_i hv
    rw [if_neg hv] at h
    rw [← h, Option.map_map]
    cases map with
    | none => rfl
    | some m => simp [hf m]

theorem EngineState.mapActive_active (f : ActiveJob → ActiveJob) (e : EngineState) :
    (e.mapActive f).active = e.active.map f := by
  cases e <;> rfl

/-- The start of a line makes its job run, and changes nothing else of the engine. -/
theorem State.beginLine_engine (s : State) (a : ActiveJob) :
    ∃ st, (s.beginLine a).txe = { s.txe with engine := .running { a with stage := st } }
      ∧ (s.beginLine a).rtu = s.rtu := by
  unfold State.beginLine
  dsimp only
  repeat' split
  all_goals exact ⟨_, rfl, rfl⟩

theorem State.beginLine_engineLegal {s : State} {a : ActiveJob} (hq : ∀ j ∈ s.txe.queue, j.Legal)
    (ha : a.Holds s.rtu.pin s.txe.map) : (s.beginLine a).EngineLegal := by
  obtain ⟨st, htxe, hrtu⟩ := s.beginLine_engine a
  have hactive : (s.beginLine a).txe.engine.active = some { a with stage := st } := by rw [htxe]; rfl
  rw [State.engineLegal_iff_active hactive, htxe, hrtu]
  exact ⟨hq, ha⟩

/-- A settled action and an offered record leave the queue, the map and the pin, and no job is active (R76). -/
theorem State.retire_engine (s : State) (a : ActiveJob) (o : JobOutcome) (q : Reason) :
    (s.retire a o q).txe.queue = s.txe.queue ∧ (s.retire a o q).txe.map = s.txe.map
      ∧ (s.retire a o q).rtu.pin = s.rtu.pin ∧ (s.retire a o q).txe.engine.active = none := by
  unfold State.retire State.offer State.settleAction
  repeat' split
  all_goals exact ⟨rfl, rfl, rfl, rfl⟩

theorem State.jobEnd_engine (s : State) (a : ActiveJob) (o : JobOutcome) (q : Reason) :
    (s.jobEnd a o q).txe.queue = s.txe.queue ∧ (s.jobEnd a o q).txe.map = none ∧ (s.jobEnd a o q).rtu.pin = none
      ∧ (s.jobEnd a o q).txe.engine.active = none :=
  State.retire_engine { s with rtu := { s.rtu with pin := none }, txe := { s.txe with map := none } } a o q

/-- A job end leaves no active job, no pin and no map. -/
theorem State.jobEnd_engineLegal {s : State} (hq : ∀ j ∈ s.txe.queue, j.Legal) (a : ActiveJob) (o : JobOutcome)
    (q : Reason) : (s.jobEnd a o q).EngineLegal := by
  obtain ⟨hqueue, hmap, hpin, hactive⟩ := s.jobEnd_engine a o q
  rw [State.engineLegal_iff_inactive hactive, hqueue]
  exact ⟨hq, hpin, hmap⟩

/-- The next line of a job that does not end is one of its lines, and the counts stand as before it (R74, R75). -/
theorem ActiveJob.Counted.next {a : ActiveJob} (h : a.Counted) (r : LineResult) (hl : ¬ a.limitReached r = true)
    (ht : ¬ a.atLast = true) : ActiveJob.Counted { a.count r with nextLine := a.nextLine + 1 } := by
  obtain ⟨hfirst, hlast, hdone, hsum, hlimit⟩ := h
  simp only [ActiveJob.atLast, decide_eq_true_eq, Nat.not_le] at ht
  simp only [ActiveJob.limitReached, Bool.and_eq_true, decide_eq_true_eq, not_and, Nat.not_le] at hl
  refine ⟨Nat.le_succ_of_le hfirst, ht, ?done, ?sum, fun hv => ?limit⟩
  case done =>
    show a.linesDone + 1 = a.nextLine + 1 - a.job.firstLine
    omega
  case sum =>
    cases r <;> simp [ActiveJob.count] <;> omega
  case limit =>
    have hkept := hlimit hv
    by_cases hr : r = .mismatch
    · simpa [ActiveJob.count, hr] using hl hr
    · simpa [ActiveJob.count, hr] using hkept

/-- The completion of a line keeps the engine legal. -/
theorem State.EngineLegal.completeLine {s : State} (h : s.EngineLegal) (r : LineResult) :
    (s.completeLine r).EngineLegal := by
  have hq : ∀ j ∈ s.txe.queue, j.Legal := h.1
  unfold State.completeLine
  split
  · exact State.jobEnd_engineLegal hq _ _ _
  · rename_i a ha
    split
    · exact State.jobEnd_engineLegal hq _ _ _
    rename_i hl
    split
    · exact State.jobEnd_engineLegal hq _ _ _
    rename_i ht
    obtain ⟨-, hlegal, hcounted, hpin, hmap⟩ := (State.engineLegal_iff_active (by rw [ha]; rfl)).mp h
    exact State.beginLine_engineLegal hq ⟨hlegal, hcounted.next r hl ht, hpin, hmap⟩
  · exact h

/-- The scan of the buffer keeps the range of the map (R89). -/
theorem ByteMap.scan_range (m : ByteMap) (buffer : List PostEntry) :
    (m.scan buffer).start = m.start ∧ (m.scan buffer).lines = m.lines := by
  unfold ByteMap.scan
  induction buffer generalizing m with
  | nil => exact ⟨rfl, rfl⟩
  | cons e rest ih =>
    obtain ⟨hs, hl⟩ := ih (m.mark e.offset e.lanes)
    obtain ⟨hs', hl', -⟩ := m.mark_keeps e.offset e.lanes
    exact ⟨hs.trans hs', hl.trans hl'⟩

/-- The activation of a legal job with nothing pinned and no map armed leaves it active with its pin and its map. -/
theorem State.EngineLegal.activated {s : State} (h : s.EngineLegal) (j : Job) (rest : List Job)
    (hidle : s.txe.engine = .idle) (hq : s.txe.queue = j :: rest) : (s.activated j rest).EngineLegal := by
  obtain ⟨hjobs, -, hmap⟩ := (State.engineLegal_iff_inactive (by rw [hidle]; rfl)).mp h
  rw [hq, List.forall_mem_cons] at hjobs
  obtain ⟨hj, hrest⟩ := hjobs
  obtain ⟨hcount, hend, hlimit⟩ := hj
  unfold State.activated
  refine State.beginLine_engineLegal hrest ⟨⟨hcount, hend, hlimit⟩, ?counted, rfl, ?map⟩
  case counted => exact ⟨Nat.le_refl _, Nat.lt_add_of_pos_right hcount, (Nat.sub_self _).symm, Nat.le_refl _, hlimit⟩
  case map =>
    unfold ActiveJob.HasMap
    dsimp only [Job.activate]
    split
    · exact hmap
    · simp [ByteMap.scan_range, ActiveJob.armedMap]

/-- Every move keeps the engine legal. -/
theorem State.EngineLegal.move {s t : State} (h : s.EngineLegal) (m : s.Move t) : t.EngineLegal := by
  cases m with
  | quiet _ hq =>
    have htxe : t.txe = s.txe := congrArg Setup.txe hq
    have hrtu : t.rtu = s.rtu := congrArg Setup.rtu hq
    exact State.engineLegal_of_eq h (by rw [htxe]) (by rw [htxe]) (by rw [htxe]) (by rw [hrtu])
  | clearHits | window | route | overlay | lock | auxWindow | select | ports | parityCheck =>
    exact State.engineLegal_of_eq h rfl rfl rfl rfl
  | hit ov => exact State.engineLegal_of_eq h rfl rfl rfl (by cases ov <;> rfl)
  | line r => exact h.completeLine r
  | activate j rest hidle hq => exact h.activated j rest hidle hq
  | engine e he => exact State.engineLegal_of_eq h rfl he rfl rfl
  | stop => exact ⟨by simp [defaultTxe], rfl, rfl⟩
  | queue q hq =>
    obtain ⟨hjobs, hactive⟩ := h
    exact ⟨fun j hj => (hq j hj).elim (hjobs j) id, hactive⟩
  | mark off lanes =>
    cases ha : s.txe.engine.active with
    | none =>
      obtain ⟨hjobs, hpin, hmap⟩ := (State.engineLegal_iff_inactive ha).mp h
      exact (State.engineLegal_iff_inactive (s := s.mark off lanes) ha).mpr
        ⟨hjobs, hpin, by rw [State.mark_txe, hmap]; rfl⟩
    | some a =>
      obtain ⟨hjobs, hlegal, hcounted, hpin, hmap⟩ := (State.engineLegal_iff_active ha).mp h
      have hrange (m : ByteMap) : (m.mark off lanes).start = m.start ∧ (m.mark off lanes).lines = m.lines := by
        obtain ⟨hs, hl, -⟩ := m.mark_keeps off lanes
        exact ⟨hs, hl⟩
      exact (State.engineLegal_iff_active (s := s.mark off lanes) ha).mpr
        ⟨hjobs, hlegal, hcounted, hpin, hmap.of_range hrange⟩
  | stage st =>
    have hstage : (s.setStage st).txe.engine.active = s.txe.engine.active.map fun a => { a with stage := st } :=
      EngineState.mapActive_active _ _
    cases ha : s.txe.engine.active with
    | none => exact State.engineLegal_of_eq h rfl (by rw [hstage, ha]; rfl) rfl rfl
    | some a =>
      rw [ha] at hstage
      exact (State.engineLegal_iff_active hstage).mpr ((State.engineLegal_iff_active ha).mp h)

theorem State.released_engineLegal (s : State) (st : Straps) : (s.released st).drive.EngineLegal :=
  ⟨fun _ hj => absurd hj List.not_mem_nil, rfl, rfl⟩

/-- Settles O10: every move keeps the engine legal, and the release leaves it without a job. -/
theorem stepKeepsEngineLegal : Obligations.StepKeepsEngineLegal :=
  fun _ _ hs h => step_keeps (fun _ _ => State.EngineLegal.move) State.released_engineLegal hs h

/-! ### The routing lock -/

theorem State.SameRouting.refl (s : State) : s.SameRouting s := ⟨rfl, fun _ => rfl, rfl, rfl, rfl, rfl⟩

theorem State.SameRouting.trans {s t u : State} (h : s.SameRouting t) (k : t.SameRouting u) : s.SameRouting u := by
  obtain ⟨hr, ho, hb, he, hab, hal⟩ := h
  obtain ⟨kr, ko, kb, ke, kab, kal⟩ := k
  exact ⟨kr.trans hr, fun i => (ko i).trans (ho i), kb.trans hb, ke.trans he, kab.trans hab, kal.trans hal⟩

/-- The lock is set in the later state, and what it freezes is as in the earlier one. -/
def State.Frozen (s t : State) : Prop := t.rtu.lock = true ∧ s.SameRouting t

theorem State.Frozen.trans {s t u : State} (h : s.Frozen t) (k : t.rtu.lock = true → t.Frozen u) : s.Frozen u := by
  obtain ⟨hlock, hsame⟩ := h
  obtain ⟨klock, ksame⟩ := k hlock
  exact ⟨klock, hsame.trans ksame⟩

/-- A job that ends under the lock has its action refused, so no mode is written (R77). -/
theorem State.jobEnd_frozen (s : State) (a : ActiveJob) (o : JobOutcome) (q : Reason) (hl : s.rtu.lock = true) :
    s.Frozen (s.jobEnd a o q) := by
  unfold State.jobEnd
  rw [State.retire_unapplied]
  · unfold State.offer
    split
    all_goals exact ⟨hl, State.SameRouting.refl s⟩
  · show actionResult a.job.action o s.rtu.lock ≠ .applied
    rw [hl]
    exact actionResult_locked _ o

theorem State.beginLine_frozen (s : State) (a : ActiveJob) (hl : s.rtu.lock = true) : s.Frozen (s.beginLine a) := by
  obtain ⟨_, -, hrtu⟩ := s.beginLine_engine a
  obtain ⟨hamp, -⟩ := s.beginLine_outside a
  unfold State.Frozen State.SameRouting
  rw [hrtu, hamp]
  exact ⟨hl, State.SameRouting.refl s⟩

/-- Under the lock no move changes what it freezes, and none but the release clears it (R23). -/
theorem State.Move.frozen {s t : State} (m : s.Move t) (hl : s.rtu.lock = true) : s.Frozen t := by
  have hopen : s.rtu.lock ≠ false := by simp [hl]
  cases m with
  | quiet _ hq =>
    simp only [State.setup, Setup.mk.injEq] at hq
    obtain ⟨-, hrtu, hbase, hlimit, -⟩ := hq
    unfold State.Frozen State.SameRouting
    rw [hrtu, hbase, hlimit]
    exact ⟨hl, State.SameRouting.refl s⟩
  | mark | stage | queue | engine | stop | select | ports | parityCheck => exact ⟨hl, State.SameRouting.refl s⟩
  | lock => exact ⟨rfl, State.SameRouting.refl s⟩
  | window _ _ h | route _ _ _ h | overlay _ _ _ h | auxWindow _ _ h => exact absurd h hopen
  | line r =>
    exact State.completeLine_keeps s.Frozen s r ⟨hl, State.SameRouting.refl s⟩ (fun a => s.beginLine_frozen a hl)
      fun a o q => s.jobEnd_frozen a o q hl
  | activate j rest =>
    unfold State.activated
    exact State.beginLine_frozen _ _ hl
  | hit ov =>
    have hsame : (s.rtu.hit ov).lock = s.rtu.lock ∧ (s.rtu.hit ov).routes = s.rtu.routes
        ∧ (s.rtu.hit ov).windowBase = s.rtu.windowBase ∧ (s.rtu.hit ov).windowEnable = s.rtu.windowEnable := by
      cases ov <;> exact ⟨rfl, rfl, rfl, rfl⟩
    obtain ⟨hlock, hroutes, hbase, henable⟩ := hsame
    refine ⟨hlock.trans hl, hroutes, fun k => ?_, hbase, henable, rfl, rfl⟩
    obtain ⟨n, hn⟩ := s.rtu.hit_overlay ov k
    show { (s.rtu.hit ov).overlays[k] with hits := 0#16 } = _
    rw [hn]
  | clearHits =>
    refine ⟨hl, rfl, fun k => ?_, rfl, rfl, rfl, rfl⟩
    rw [s.rtu.clearHits_overlay k]

/-- Settles O15: under the lock no move of a command changes what it freezes, and the release alone clears it. -/
theorem lockFreezesRouting : Obligations.LockFreezesRouting := by
  refine ⟨fun s c h => ?sets, fun s => ?shown, fun st s t h => ?cleared, fun i s t hi h hl => ?freezes⟩
  case sets => exact State.command_windowWritten s c _ State.runLockRouting _ _ _ _ h rfl rfl rfl
  case shown => rfl
  case cleared => rw [exec_resetRelease_next h]; rfl
  case freezes =>
    exact (exec_moves hi h).keeps
      (fun _ _ (hu : s.Frozen _) m => hu.trans m.frozen) ⟨hl, State.SameRouting.refl s⟩

end Sys2Proof.Machine
end

section
/-! PROOF. COMMIT_OVERLAY: its checks in order and the entry it commits (O27, family 02_overlay_pages.md). -/

namespace Sys2Proof.Machine

/-! ### The fields of an overlay staging record -/

/-- A byte names the yes or no whose code it is. -/
theorem flagOfCode_eq_some_iff (b : Byte) (f : Bool) : flagOfCode b = some f ↔ flagByte f = b := by
  revert b
  cases f <;> decide

/-- A byte names the overlay scope whose code it is. -/
theorem Scope.ofCode_eq_some_iff (b : Byte) (sc : Scope) : Scope.ofCode b = some sc ↔ sc.code = b := by
  revert b
  cases sc <;> decide

theorem flagOfCode_isSome_iff (b : Byte) : (∃ f, flagOfCode b = some f) ↔ b.toNat ≤ 1 := by
  rw [← Option.isSome_iff_exists]
  revert b
  decide

theorem Scope.ofCode_isSome_iff (b : Byte) : (∃ sc, Scope.ofCode b = some sc) ↔ b.toNat ≤ 1 := by
  rw [← Option.isSome_iff_exists]
  revert b
  decide

/-- The conditions of R25 on a Work page, with the store size written out. -/
theorem validPage_iff (page : Offset) (st : Straps) :
    validPage page st.workSize = true ↔ page.toNat % 0x1000 = 0 ∧ page.toNat < 0x200000 * 2 ^ st.wsize.toNat := by
  rw [← (Straps.sizes_eq st).1]
  simp only [validPage, Bool.and_eq_true, decide_eq_true_eq]
  rfl

/-- The fields of an overlay staging record that a commit takes pass their checks (R34, step 3). -/
def OverlayStaging.FieldsPass (r : OverlayStaging) (st : Straps) : Prop :=
  r.enabled.toNat ≤ 1 ∧ r.scope.toNat ≤ 1 ∧ r.hostPage.toNat ≤ 4095
    ∧ r.workPage.toNat % 0x1000 = 0 ∧ r.workPage.toNat < 0x200000 * 2 ^ st.wsize.toNat

/-- An overlay staging record stages an entry exactly where its fields pass. -/
theorem OverlayStaging.fieldsPass_iff (r : OverlayStaging) (st : Straps) :
    r.FieldsPass st ↔ ∃ e, r.entry? st = some e := by
  unfold OverlayStaging.FieldsPass OverlayStaging.entry?
  rw [← validPage_iff, ← flagOfCode_isSome_iff, ← Scope.ofCode_isSome_iff]
  rcases flagOfCode r.enabled with _ | en
  · simp
  rcases Scope.ofCode r.scope with _ | sc
  · simp
  simp

/-- A host page that passes its check fits the 12 bits of an entry's host page. -/
theorem setWidth_hostPage {p : BitVec 16} (h : p.toNat ≤ 4095) : (p.setWidth 12).setWidth 16 = p := by
  bv_omega

/-- The entry an overlay staging record stages holds the record's four fields and a hit count of 0 (R35). -/
theorem OverlayStaging.entry?_staged {r : OverlayStaging} {st : Straps} {e : OverlayEntry}
    (h : r.entry? st = some e) : e.staged = { r with hits := 0#16 } := by
  unfold OverlayStaging.entry? at h
  split at h
  · rename_i en sc hen hsc
    split at h
    · rename_i hv
      simp only [Bool.and_eq_true, decide_eq_true_eq] at hv
      obtain ⟨hpage, -⟩ := hv
      simp only [Option.some.injEq] at h
      subst h
      rw [flagOfCode_eq_some_iff] at hen
      rw [Scope.ofCode_eq_some_iff] at hsc
      simp only [OverlayEntry.staged, hen, hsc, setWidth_hostPage hpage]
    · cases h
  · cases h

/-! ### What the rule of COMMIT_OVERLAY answers -/

theorem State.runCommitOverlay_locked (s : State) (hn : s.rgw.argument.toNat < 16) (hl : s.rtu.lock = true) :
    s.runCommitOverlay = { state := s, result := .locked } :=
  (dif_pos hn).trans (if_pos hl)

theorem State.runCommitOverlay_badField (s : State) (hn : s.rgw.argument.toNat < 16) (hl : s.rtu.lock = false)
    (he : s.rgw.staging.overlay.entry? s.straps = none) :
    s.runCommitOverlay = { state := s, result := .badField } := by
  unfold State.runCommitOverlay
  rw [dif_pos hn, if_neg (by simp [hl]), he]

theorem State.runCommitOverlay_ok (s : State) (hn : s.rgw.argument.toNat < 16) (hl : s.rtu.lock = false)
    (e : OverlayEntry) (he : s.rgw.staging.overlay.entry? s.straps = some e) :
    s.runCommitOverlay
      = { state := { s with rtu := { s.rtu with overlays := s.rtu.overlays.set s.rgw.argument.toNat e hn } }
          result := .ok } := by
  unfold State.runCommitOverlay
  rw [dif_pos hn, if_neg (by simp [hl]), he]

/-- Settles O27: the checks of R34 in turn; the entry the staging record stages exists exactly where its fields pass,
and loading it back gives the record with a hit count of 0 (R35). -/
theorem commitOverlayChecksThenReplaces : Obligations.CommitOverlayChecksThenReplaces := by
  intro s c h n r fields
  have hfields : fields ↔ ∃ e, r.entry? s.straps = some e := r.fieldsPass_iff s.straps
  refine ⟨fun hn => ?badIndex, fun hn => ⟨fun hl => ?locked, fun hl hf => ?badField, fun hl hf => ?ok⟩⟩
  case badIndex =>
    exact State.command_refuses _ _ _ State.runCommitOverlay _ _ h rfl (dif_neg (Nat.not_lt.mpr hn))
  case locked => exact State.command_refuses _ _ _ _ _ _ h rfl (State.runCommitOverlay_locked _ hn hl)
  case badField =>
    have hnone : r.entry? s.straps = none := by
      rw [← Option.not_isSome_iff_eq_none, Option.isSome_iff_exists, ← hfields]
      exact hf
    exact State.command_refuses _ _ _ _ _ _ h rfl (State.runCommitOverlay_badField _ hn hl hnone)
  case ok =>
    obtain ⟨e, he⟩ := hfields.mp hf
    have hst : e.staged = { r with hits := 0#16 } := OverlayStaging.entry?_staged he
    have hpage : e.hostPage.setWidth 16 = r.hostPage := congrArg OverlayStaging.hostPage hst
    refine ⟨e, congrArg OverlayStaging.enabled hst, congrArg OverlayStaging.scope hst, ?_,
      congrArg OverlayStaging.workPage hst, congrArg OverlayStaging.hits hst, ?_⟩
    · rw [← hpage]
      bv_omega
    · exact State.command_windowWritten _ _ _ _ _ _ _ _ h rfl (State.runCommitOverlay_ok (s.openIo c) hn hl e he) rfl

end Sys2Proof.Machine
end

section
/-! PROOF. What a command can do to the host path, the queues and the Boot Store port, said once: every command is one
event, after which the Work Store port may settle. -/

namespace Sys2Proof.Machine

/-! ### The part of the state the queues, the host cycle and the Boot Store port stand in -/

/-- The host cycle with the buffer and its timer, the Job Queue and the engine, the Boot Store port, and the Reporting
Unit. -/
structure Desk where
  cycle         : Option HostCycle
  unclaimed     : Bool
  buffer        : List PostEntry
  timerRunning  : Bool
  waitLimit     : Byte
  queue         : List Job
  engine        : EngineState
  accessor      : Option BootAccess
  hostRequest   : Option Offset
  engineRequest : Option Offset
  rpu           : Rpu

/-- The desk of a state. -/
def State.desk (s : State) : Desk :=
  { cycle := s.hbi.cycle, unclaimed := s.hbi.unclaimed, buffer := s.hbi.buffer, timerRunning := s.hbi.timerRunning
    waitLimit := s.hbi.waitLimit, queue := s.txe.queue, engine := s.txe.engine, accessor := s.bsc.accessor
    hostRequest := s.bsc.hostRequest, engineRequest := s.bsc.engineRequest, rpu := s.rpu }

/-- The desk of `v` is that of `s`, but for a fault that may have been handed over. -/
def State.Reported (s v : State) : Prop := v.desk = s.desk ∨ ∃ f, v.desk = (s.handFault f).desk

/-- A host access is in progress on the Work Store port. -/
def State.HostAccess (s : State) : Prop :=
  (∃ check, s.wsc.access = some (.hostRead check)) ∨ s.wsc.access = some .hostWrite

/-- A line access whose job ENGINE_RESET has not discarded is in progress on the Work Store port. -/
def State.LineAccess (s : State) : Prop :=
  (∃ off d m, s.wsc.access = some (.lineWrite off d m false))
    ∨ ∃ off check, s.wsc.access = some (.lineRead off check false)

/-! ### Events -/

/-- What one command does to the desk before the Work Store port settles, with the condition it comes under. -/
inductive State.Event (s : State) : State → Prop
  /-- The desk stays, but for a fault that may be handed over (R136). -/
  | plain (v : State) (h : s.Reported v) : Event s v
  /-- The host wait limit is replaced (R50). -/
  | waitLimit (b : Byte) (hc : s.hbi.cycle = none) : Event s { s with hbi := { s.hbi with waitLimit := b } }
  /-- The interrupt mask is replaced (R149). -/
  | mask (m : BitVec 4) : Event s { s with rpu := { s.rpu with mask := m } }
  /-- The note of a cycle that another device answers is made or cleared (R40). -/
  | note (x : Bool) (hc : s.hbi.cycle = none) : Event s { s with hbi := { s.hbi with unclaimed := x } }
  /-- A cycle ends at its arrival (R11 to R13) or at the end of its Work Store access (R43, R49). -/
  | ended (v : State) (a : HostAnswer) (h : s.Reported v) (hc : s.hbi.cycle = none ∨ s.HostAccess) :
    Event s (v.endCycle a)
  /-- A Boot Store read arrives (R42). -/
  | bootArrive (c : MemoryCycle) (off : Offset) (b : Fin 64) (hf : s.busFree = true) (hd : c.dir = .read) :
    Event s (s.arriveBootRead c off b)
  /-- A Work Store read or an unposted write arrives (R43, R49). -/
  | workArrive (c : MemoryCycle) (off : Offset) (b : Fin 64) (ov : Option (Fin 16)) (hf : s.busFree = true) :
    Event s (s.hold (heldCycle c off b ov (if s.hbi.buffer.isEmpty then .awaitWork else .awaitDrain)))
  /-- A write arrives to be posted with no slot free (R46). -/
  | slotArrive (c : MemoryCycle) (off : Offset) (b : Fin 64) (ov : Option (Fin 16)) (hf : s.busFree = true)
      (hd : c.dir = .write) (hlen : 4 ≤ s.hbi.buffer.length) : Event s (s.hold (heldCycle c off b ov .awaitSlot))
  /-- A write arrives and is posted (R45). -/
  | post (e : PostEntry) (a : HostAnswer) (hf : s.busFree = true) (hlen : s.hbi.buffer.length < 4) :
    Event s ((s.post e).endCycle a)
  /-- The waiting cycle times out, and its Boot Store request is withdrawn (R51). -/
  | timeout (v : State) (c : HostCycle) (w : Awaited) (a : HostAnswer) (h : s.Reported v) (hc : s.hbi.cycle = some c)
      (hw : c.stage.awaited = some w) : Event s ({ v with bsc := { v.bsc with hostRequest := none } }.endCycle a)
  /-- A host's Boot Store read completes (R42, R113). -/
  | hostBoot (b : BootAccess) (c : HostCycle) (a : HostAnswer) (hb : s.bsc.accessor = some b) (hu : b.user = .hostPath)
      (hc : s.hbi.cycle = some c) : Event s (s.endCycle a).bootNext
  /-- The oldest entry leaves the buffer, and a cycle that waited for that goes on (R43, R46, R47). -/
  | drain (e : PostEntry) (rest : List PostEntry) (v : State) (hb : s.hbi.buffer = e :: rest)
      (hv : v.desk = { s.desk with buffer := rest }) : Event s v.afterDrain
  /-- The job at the front of the queue is refused its target and ends (R64). -/
  | refuseJob (j : Job) (rest : List Job) (r : CompletionRecord) (hidle : s.txe.engine = .idle)
      (hq : s.txe.queue = j :: rest) : Event s (State.offer r { s with txe := { s.txe with queue := rest } })
  /-- The job at the front of the queue becomes active (R63, R65). -/
  | activate (j : Job) (rest : List Job) (hidle : s.txe.engine = .idle) (hq : s.txe.queue = j :: rest) :
    Event s (s.activated j rest)
  /-- The engine's Boot Store read completes and its line waits for the Work Store (R67). -/
  | engineBoot (b : BootAccess) (d : Line) (hb : s.bsc.accessor = some b) (hu : b.user = .engine)
      (hd : b.dropped = false) : Event s (s.setStage (.awaitWork d)).bootNext
  /-- A Boot Store read of the engine whose job was discarded completes (R84). -/
  | droppedBoot (b : BootAccess) (hb : s.bsc.accessor = some b) (hu : b.user = .engine) (hd : b.dropped = true) :
    Event s s.bootNext
  /-- The line in progress completes with its Work Store access (R69, R73 to R75). -/
  | line (v : State) (r : LineResult) (h : s.Reported v) (ha : s.LineAccess) : Event s (v.completeLine r)
  /-- A job joins the queue (R58). -/
  | submit (j : Job) (hlen : s.txe.queue.length < 8) :
    Event s { s with txe := { s.txe with queue := s.txe.queue ++ [j] } }
  /-- The queue is emptied (R82). -/
  | flush : Event s { s with txe := { s.txe with queue := [] } }
  /-- The active job is to end with its line (R80). -/
  | abort (a : ActiveJob) (he : s.txe.engine = .running a) :
    Event s { s with txe := { s.txe with engine := .draining a } }
  /-- The engine drops its work, its Boot Store request and the job of its read in progress (R83, R84). -/
  | engineReset : Event s { s with
      txe := defaultTxe
      bsc := { s.bsc with accessor := s.bsc.accessor.map BootAccess.drop, engineRequest := none } }
  /-- The oldest fault record is removed (R142). -/
  | popFault (r : FaultRecord) (rest : List FaultRecord) (h : s.rpu.faults = r :: rest) :
    Event s { s with rpu := { s.rpu with faults := rest } }
  /-- The overflow flag and the count of lost faults are cleared (R143). -/
  | clearOverflow : Event s { s with rpu := { s.rpu with overflow := false, lost := 0#8 } }
  /-- The oldest completion record is removed, none being held by the engine (R147). -/
  | popCompletion (r : CompletionRecord) (rest : List CompletionRecord) (h : s.rpu.completions = r :: rest)
      (he : ∀ q, s.txe.engine ≠ .retiring q) : Event s { s with rpu := { s.rpu with completions := rest } }
  /-- The oldest completion record is removed and the held one takes a place (R79, R147). -/
  | popRetiring (r q : CompletionRecord) (rest : List CompletionRecord) (h : s.rpu.completions = r :: rest)
      (he : s.txe.engine = .retiring q) :
    Event s { s with rpu := { s.rpu with completions := rest ++ [q] }, txe := { s.txe with engine := .idle } }
  /-- RESET is asserted (R55, R85, R150). -/
  | resetAssert : Event s s.clearForReset
  /-- RESET is released (R14). -/
  | resetRelease (st : Straps) (hr : s.inReset = true) : Event s (s.released st)

/-- A command leads to the desk of an event, settled or not. -/
def State.Leads (s t : State) : Prop :=
  ∃ u v : State, s.Event u ∧ v.desk = u.desk ∧ (t.desk = v.desk ∨ t.desk = v.settle.desk)

theorem State.Event.leads {s t u : State} (h : s.Event u) (e : t.desk = u.desk) : s.Leads t := ⟨u, t, h, e, .inl rfl⟩

theorem State.Event.leads_settle {s u v : State} (h : s.Event u) (e : v.desk = u.desk) : s.Leads v.settle :=
  ⟨u, v, h, e, .inr rfl⟩

theorem State.Leads.of_event {s u : State} (h : s.Event u) : s.Leads u := h.leads rfl

theorem State.Leads.settled {s u : State} (h : s.Event u) : s.Leads u.settle := h.leads_settle rfl

/-- The state an event answers has the desk of the state it ends in: the outputs are no part of it. -/
theorem State.leads_of_done {s t v : State} (e : v.done = .next t) (h : s.Leads v) : s.Leads t := by
  simp only [State.done, Host.Outcome.next.injEq] at e
  subst e
  exact h

theorem State.reported_handFault {s v : State} (f : FaultRecord) (e : v.desk = s.desk) :
    s.Reported (v.handFault f) := by
  refine .inr ⟨f, ?_⟩
  simp only [State.desk, Desk.mk.injEq] at e ⊢
  simp [e]

theorem State.reported_unless (p : Prop) [Decidable p] {s v : State} (f : FaultRecord) (e : v.desk = s.desk) :
    s.Reported (if p then v else v.handFault f) := by
  split
  · exact .inl e
  · exact State.reported_handFault f e

/-- A state with the same desk is led to. -/
theorem State.leads_of_desk {s t : State} (e : t.desk = s.desk) : s.Leads t := (State.Event.plain t (.inl e)).leads rfl

theorem State.leads_settle_of_desk {s v : State} (e : v.desk = s.desk) : s.Leads v.settle :=
  (State.Event.plain v (.inl e)).leads_settle rfl

/-- A change of the Work Store alone leaves the desk. -/
theorem ButWork.desk {s t : State} (h : ButWork s t) : t.desk = s.desk := by
  unfold ButWork at h
  rw [h]
  rfl

theorem State.writeWork_desk (off : Nat) (sel : Nat → Bool) (dat : Nat → Byte) (n : Nat) (s : State) :
    (s.writeWork off sel dat n).desk = s.desk :=
  (State.writeWork_butWork off sel dat n s).desk

/-- No cycle is in progress on a free bus. -/
theorem State.busFree_iff (s : State) : s.busFree = true ↔ s.hbi.cycle = none ∧ s.hbi.unclaimed = false := by
  simp [State.busFree]

/-! ### Host cycles -/

theorem State.endRefused_eq (s : State) (kind : FaultKind) (addr : HostAddr) (dir : Direction) (b : Fin 64)
    (fa : FaultAction) (data : Option LaneData) :
    s.endRefused kind addr dir b fa data
      = State.endCycle { busError := decide (fa = .recordAndError), data := data }
          (if fa = .silent then s else s.handFault (hostFault kind addr dir b)) :=
  rfl

/-- Only a write is routed to be written. -/
theorem Rtu.resolve_workWrite_write (r : Rtu) (addr : HostAddr) (d : Direction) (off : Offset) (b : Fin 64)
    (ov : Option (Fin 16)) (h : r.resolve addr d = .workWrite off b ov) : d = .write := by
  cases d with
  | write => rfl
  | read =>
    exfalso
    revert h
    unfold Rtu.resolve RouteEntry.route
    dsimp only
    repeat' split
    all_goals simp_all

/-- A host memory cycle that arrives on a free bus proceeds by its route as one event. -/
theorem State.arriveRoute_leads {s : State} (c : MemoryCycle) (claimed : Bool) (hf : s.busFree = true) :
    s.Leads ((s.arrive .memory (wordAddr c.ha) c.dir claimed).arriveRoute c (s.rtu.resolve (wordAddr c.ha) c.dir)) := by
  have hc : s.hbi.cycle = none := (s.busFree_iff.mp hf).1
  have hwork (off : Offset) (b : Fin 64) (ov : Option (Fin 16)) :
      s.Leads ((s.arrive .memory (wordAddr c.ha) c.dir claimed).arriveWork c off b ov) :=
    (State.Event.workArrive c off b ov hf).leads_settle rfl
  have hrefused (kind : FaultKind) (b : Fin 64) (fa : FaultAction) (data : Option LaneData) :
      s.Leads ((s.arrive .memory (wordAddr c.ha) c.dir claimed).endRefused kind (wordAddr c.ha) c.dir b fa data) := by
    rw [State.endRefused_eq]
    exact .of_event (.ended _ _ (State.reported_unless _ _ rfl) (.inl hc))
  cases hroute : s.rtu.resolve (wordAddr c.ha) c.dir with
  | notClaimed => exact (State.Event.note true hc).leads rfl
  | discard b fa => exact hrefused .discardedWrite b fa none
  | closed b fa => exact hrefused .closedAccess b fa _
  | bootRead off b =>
    refine (State.Event.bootArrive c off b hf (Rtu.resolve_bootRead_read _ _ _ _ _ hroute)).leads ?_
    show (State.arriveBootRead c off b _).desk = _
    unfold State.arriveBootRead
    rw [apply_ite State.desk, apply_ite State.desk]
    rfl
  | workRead off b ov => exact hwork off b ov
  | workWrite off b ov =>
    show s.Leads (if s.hbi.postingEnable then State.arrivePosted c off b ov _ else _)
    split
    · unfold State.arrivePosted
      dsimp only
      split
      · rename_i hlen
        exact (State.Event.post _ .readyWrite hf hlen).leads_settle rfl
      · rename_i hlen
        have hdir := Rtu.resolve_workWrite_write _ _ _ _ _ _ hroute
        exact (State.Event.slotArrive c off b ov hf hdir (Nat.not_lt.mp hlen)).leads_settle rfl
    · exact hwork off b ov

theorem execHostMemoryCycleArrival_leads {c : MemoryCycle} {s t : State}
    (h : execHostMemoryCycleArrival c s = .next t) : s.Leads t := by
  unfold execHostMemoryCycleArrival at h
  split at h
  · cases h
  split at h
  · cases h
  rename_i hf
  rw [Bool.not_eq_false] at hf
  split at h
  · exact State.leads_of_done h ((State.Event.note true (s.busFree_iff.mp hf).1).leads rfl)
  · exact State.leads_of_done h (State.arriveRoute_leads c _ hf)

theorem execUnclaimedIoCycle_leads {dir : Direction} {c : IoCycle} {s t : State}
    (h : execUnclaimedIoCycle dir c s = .next t) : s.Leads t := by
  unfold execUnclaimedIoCycle at h
  split at h
  · cases h
  split at h
  · cases h
  rename_i hf
  rw [Bool.not_eq_false, State.busFree_iff] at hf
  obtain ⟨hc, -⟩ := hf
  split at h
  · exact State.leads_of_done h ((State.Event.note true hc).leads rfl)
  split at h
  · cases dir with
    | read => exact State.leads_of_done h (State.leads_of_desk rfl)
    | write => cases h
  · exact State.leads_of_done h ((State.Event.note true hc).leads rfl)

theorem execUnclaimedCycleEnd_leads {s t : State} (h : execUnclaimedCycleEnd s = .next t) : s.Leads t := by
  unfold execUnclaimedCycleEnd at h
  split at h
  · cases h
  · rename_i hc
    exact State.leads_of_done h ((State.Event.note false (by simpa using hc)).leads rfl)

theorem execHostWaitTimeout_leads {s t : State} (h : execHostWaitTimeout s = .next t) : s.Leads t := by
  unfold execHostWaitTimeout at h
  split at h
  · cases h
  rename_i c hc
  split at h
  · cases h
  rename_i w hw
  split at h
  · cases h
  · exact State.leads_of_done h
      ((State.Event.timeout _ c w _ (State.reported_handFault _ rfl) hc hw).leads_settle rfl)

theorem execHostBootReadComplete_leads {s t : State} (h : execHostBootReadComplete s = .next t) : s.Leads t := by
  unfold execHostBootReadComplete at h
  split at h
  · rename_i b c hb hc
    split at h
    · rename_i hu
      exact State.leads_of_done h ((State.Event.hostBoot b c _ hb hu hc).leads rfl)
    · cases h
  · cases h

theorem execHostWorkReadComplete_leads {s t : State} (h : execHostWorkReadComplete s = .next t) : s.Leads t := by
  unfold execHostWorkReadComplete at h
  split at h
  · rename_i check c ha hc
    exact State.leads_of_done h
      (.settled (.ended _ _ (State.reported_unless _ _ rfl) (.inr (.inl ⟨check, ha⟩))))
  · cases h

theorem execUnpostedWriteComplete_leads {s t : State} (h : execUnpostedWriteComplete s = .next t) : s.Leads t := by
  unfold execUnpostedWriteComplete at h
  split at h
  · rename_i c ha hc
    have hw : (s.endAccess.writeLanes c.offset c.lanes c.data).desk = s.desk := State.writeWork_desk ..
    exact State.leads_of_done h ((State.Event.ended _ .readyWrite (.inl hw) (.inr (.inr ha))).leads_settle rfl)
  · cases h

theorem execDrainComplete_leads {s t : State} (h : execDrainComplete s = .next t) : s.Leads t := by
  unfold execDrainComplete at h
  split at h
  · rename_i e rest ha hb
    have hw : (s.endAccess.writeLanes e.offset e.lanes e.data).desk = s.desk := State.writeWork_desk ..
    refine State.leads_of_done h ((State.Event.drain e rest _ hb ?_).leads_settle rfl)
    exact congrArg (fun d : Desk => { d with buffer := rest }) hw
  · cases h

/-! ### The engine -/

theorem execActivation_leads {s t : State} (h : execActivation s = .next t) : s.Leads t := by
  unfold execActivation at h
  split at h
  · rename_i j rest hidle hq
    dsimp only at h
    split at h
    · rw [State.retire_unapplied _ _ _ _ (actionResult_failed _ _)] at h
      exact State.leads_of_done h ((State.Event.refuseJob j rest _ hidle hq).leads rfl)
    · exact State.leads_of_done h ((State.Event.activate j rest hidle hq).leads_settle rfl)
  · cases h

theorem execEngineBootReadComplete_leads {s t : State} (h : execEngineBootReadComplete s = .next t) : s.Leads t := by
  unfold execEngineBootReadComplete at h
  split at h
  · rename_i b hb
    split at h
    · rename_i hu
      split at h
      · rename_i hd
        exact State.leads_of_done h ((State.Event.droppedBoot b hb hu hd).leads_settle rfl)
      · rename_i hd
        exact State.leads_of_done h ((State.Event.engineBoot b _ hb hu (by simpa using hd)).leads_settle rfl)
    · cases h
  · cases h

theorem execLineWriteComplete_leads {s t : State} (h : execLineWriteComplete s = .next t) : s.Leads t := by
  unfold execLineWriteComplete at h
  split at h
  · rename_i off data mask dropped ha
    have hw : (s.endAccess.writeLine off mask data).desk = s.desk := State.writeWork_desk ..
    dsimp only at h
    split at h
    · exact State.leads_of_done h (State.leads_settle_of_desk hw)
    · rename_i hd
      rw [Bool.not_eq_true] at hd
      subst hd
      exact State.leads_of_done h ((State.Event.line _ _ (.inl hw) (.inl ⟨off, data, mask, ha⟩)).leads_settle rfl)
  · cases h

theorem execVerifyReadComplete_leads {s t : State} (h : execVerifyReadComplete s = .next t) : s.Leads t := by
  unfold execVerifyReadComplete at h
  split at h
  · rename_i off check dropped ha
    split at h
    · exact State.leads_of_done h (State.leads_settle_of_desk rfl)
    rename_i hd
    rw [Bool.not_eq_true] at hd
    subst hd
    have hline : s.LineAccess := .inr ⟨off, check, ha⟩
    split at h
    · split at h
      · split at h
        · exact State.leads_of_done h (.settled (.line _ _ (State.reported_handFault _ rfl) hline))
        · exact State.leads_of_done h (.settled (.line _ _ (.inl rfl) hline))
      · cases h
    · cases h
  · cases h

/-! ### The arbiter and the auxiliary port -/

theorem State.countWait_desk (r : Requester) (s : State) : (s.countWait r).desk = s.desk := by
  unfold State.countWait
  split
  all_goals rfl

theorem State.handover_desk (o : Requester) (forfeit : Bool) (s : State) : (s.handover o forfeit).desk = s.desk := by
  unfold State.handover
  repeat' split
  all_goals rfl

theorem State.tick_leads (s : State) : s.Leads s.tick := by
  have hcount : s.countWaits.desk = s.desk := by
    unfold State.countWaits
    rw [State.countWait_desk, State.countWait_desk, State.countWait_desk]
  unfold State.tick
  dsimp only
  split
  · exact State.leads_settle_of_desk ((State.handover_desk ..).trans hcount)
  · exact State.leads_settle_of_desk hcount

theorem execGuaranteeExpiry_leads {s t : State} (h : execGuaranteeExpiry s = .next t) : s.Leads t := by
  unfold execGuaranteeExpiry at h
  split at h
  · exact State.leads_of_done h s.tick_leads
  · cases h

theorem execIdleExpiry_leads {s t : State} (h : execIdleExpiry s = .next t) : s.Leads t := by
  unfold execIdleExpiry at h
  split at h
  · exact State.leads_of_done h s.tick_leads
  · cases h

theorem State.resumeAux_desk (s : State) : s.resumeAux.desk = s.desk := by
  unfold State.resumeAux
  split
  all_goals rfl

theorem execAreqAssert_leads {s t : State} (h : execAreqAssert s = .next t) : s.Leads t := by
  unfold execAreqAssert at h
  split at h
  · cases h
  dsimp only at h
  split at h
  · exact State.leads_of_done h (State.leads_of_desk rfl)
  · exact State.leads_of_done h (State.leads_settle_of_desk (State.resumeAux_desk _))

theorem execAreqDeassert_leads {s t : State} (h : execAreqDeassert s = .next t) : s.Leads t := by
  unfold execAreqDeassert at h
  split at h
  · cases h
  dsimp only at h
  split at h
  · exact State.leads_of_done h (State.leads_of_desk rfl)
  · exact State.leads_of_done h (State.leads_settle_of_desk rfl)

theorem execAuxCycleStart_leads {c : AuxRequest} {s t : State} (h : execAuxCycleStart c s = .next t) : s.Leads t := by
  have hfault (f : FaultRecord) : s.Leads (s.handFault f) :=
    (State.Event.plain _ (State.reported_handFault f rfl)).leads rfl
  unfold execAuxCycleStart at h
  split at h
  · cases h
  split at h
  · exact State.leads_of_done h (State.leads_of_desk rfl)
  split at h
  · dsimp only at h
    split at h
    · exact State.leads_of_done h (hfault _)
    split at h
    · exact State.leads_of_done h (State.leads_of_desk rfl)
    split at h
    · exact State.leads_of_done h (hfault _)
    · exact State.leads_of_done h (State.leads_of_desk rfl)
  · cases h

theorem State.auxEffect_reported (s : State) (c : AuxCycle) (check : Bool) : s.Reported (s.auxEffect c check).1 := by
  unfold State.auxEffect
  split
  · exact .inl (State.writeWork_desk ..)
  · exact State.reported_unless _ _ rfl

theorem execAuxAccessComplete_leads {s t : State} (h : execAuxAccessComplete s = .next t) : s.Leads t := by
  unfold execAuxAccessComplete at h
  split at h
  · rename_i check c ha hc
    have hr : s.Reported (s.endAccess.auxEffect c check).1 := s.endAccess.auxEffect_reported c check
    exact State.leads_of_done h ((State.Event.plain _ hr).leads_settle rfl)
  · cases h

theorem execAstbDrop_leads {s t : State} (h : execAstbDrop s = .next t) : s.Leads t := by
  unfold execAstbDrop at h
  split at h
  · cases h
  · exact State.leads_of_done h (State.leads_of_desk rfl)

theorem execAstbAssertionDuringAccess_leads {s t : State} (h : execAstbAssertionDuringAccess s = .next t) :
    s.Leads t := by
  unfold execAstbAssertionDuringAccess at h
  split at h
  · split at h
    · cases h
    · exact State.leads_of_done h (State.leads_of_desk rfl)
  · cases h

/-! ### The assertion of RESET -/

theorem ButWork.refl (s : State) : ButWork s s := rfl

/-- An abandoned access writes the Work Store at most. -/
theorem State.abandonAccess_butWork (s : State) : ButWork s s.abandonAccess := by
  unfold State.abandonAccess
  split
  · split
    · exact State.writeWork_butWork ..
    · exact .refl s
  · split
    · exact State.writeWork_butWork ..
    · exact .refl s
  · exact State.writeWork_butWork ..
  · split
    · split
      · exact State.writeWork_butWork ..
      · exact .refl s
    · exact .refl s
  all_goals exact .refl s

theorem execResetAssert_leads {s t : State} (h : execResetAssert s = .next t) : s.Leads t := by
  unfold execResetAssert at h
  split at h
  · cases h
  · refine State.leads_of_done h (State.Event.resetAssert.leads ?_)
    rw [show s.abandonAccess = _ from s.abandonAccess_butWork]
    rfl

theorem execResetRelease_leads {st : Straps} {s t : State} (h : execResetRelease st s = .next t) : s.Leads t := by
  unfold execResetRelease at h
  split at h
  · rename_i hr
    rw [State.release_settle] at h
    exact State.leads_of_done h ((State.Event.resetRelease st hr).leads rfl)
  · cases h

/-! ### Register window writes and commands -/

/-- A data port write leads where the row's effect leads, on a free bus, once the cycle has opened. -/
theorem State.dataWrite_leads {s t : State} {c : IoCycle} {mine : Byte → Byte → Bool}
    {effect : Byte → Byte → State → State} (h : s.dataWrite c mine effect = .next t)
    (heff : s.busFree = true → ∀ i b, s.Leads (effect i b (s.openIo c))) : s.Leads t := by
  obtain ⟨i, b, ⟨hf, -⟩, -, rfl⟩ := State.dataWrite_next s t c mine effect h
  exact heff hf i b

/-- A data port write whose effect leaves the desk leaves it too. -/
theorem State.dataWrite_quiet {s t : State} {c : IoCycle} {mine : Byte → Byte → Bool}
    {effect : Byte → Byte → State → State} (h : s.dataWrite c mine effect = .next t)
    (heff : ∀ i b u, (effect i b u).desk = u.desk) : s.Leads t :=
  State.dataWrite_leads h fun _ i b => State.leads_of_desk (heff i b (s.openIo c))

/-- A command leads where its block's rule leads. -/
theorem State.command_leads {s t : State} {c : IoCycle} {mine : Byte → Bool} {run : State → Reply}
    (h : s.command c mine run = .next t) (hrun : s.Leads (run (s.openIo c)).state) : s.Leads t :=
  State.dataWrite_leads h fun _ _ _ => hrun

/-- A command whose block's rule leaves the desk leaves it too. -/
theorem State.command_quiet {s t : State} {c : IoCycle} {mine : Byte → Bool} {run : State → Reply}
    (h : s.command c mine run = .next t) (hrun : ∀ u, (run u).state.desk = u.desk) : s.Leads t :=
  State.command_leads h (State.leads_of_desk (hrun (s.openIo c)))

theorem execIndexPortWrite_leads {c : IoCycle} {s t : State} (h : execIndexPortWrite c s = .next t) : s.Leads t := by
  unfold execIndexPortWrite at h
  split at h
  · cases h
  split at h
  · exact State.leads_of_done h (State.leads_of_desk rfl)
  · cases h

theorem execRegisterWrite_leads {c : IoCycle} {s t : State} (h : execRegisterWrite c s = .next t) : s.Leads t := by
  refine State.dataWrite_quiet h fun i b u => ?_
  split
  all_goals rfl

/-! ### Commands -/

theorem State.runSetWindow_desk (u : State) : u.runSetWindow.state.desk = u.desk := by
  unfold State.runSetWindow
  repeat' split
  all_goals rfl

theorem State.runCommitRoute_desk (u : State) : u.runCommitRoute.state.desk = u.desk := by
  unfold State.runCommitRoute
  repeat' split
  all_goals rfl

theorem State.runLoadRoute_desk (u : State) : u.runLoadRoute.state.desk = u.desk := by
  unfold State.runLoadRoute
  split
  all_goals rfl

theorem State.runCommitOverlay_desk (u : State) : u.runCommitOverlay.state.desk = u.desk := by
  unfold State.runCommitOverlay
  repeat' split
  all_goals rfl

theorem State.runLoadOverlay_desk (u : State) : u.runLoadOverlay.state.desk = u.desk := by
  unfold State.runLoadOverlay
  split
  all_goals rfl

theorem State.runSetAuxWindow_desk (u : State) : u.runSetAuxWindow.state.desk = u.desk := by
  unfold State.runSetAuxWindow
  dsimp only
  repeat' split
  all_goals rfl

theorem State.runCommitSelect_desk (u : State) : u.runCommitSelect.state.desk = u.desk := by
  unfold State.runCommitSelect
  repeat' split
  all_goals rfl

theorem State.runLoadSelect_desk (u : State) : u.runLoadSelect.state.desk = u.desk := by
  unfold State.runLoadSelect
  split
  all_goals rfl

theorem State.runSetPorts_desk (u : State) : u.runSetPorts.state.desk = u.desk := by
  unfold State.runSetPorts
  split
  all_goals rfl

theorem execSubmitJob_leads {c : IoCycle} {s t : State} (h : execSubmitJob c s = .next t) : s.Leads t := by
  refine State.command_leads h ?_
  unfold State.runSubmitJob
  split
  · exact State.leads_of_desk rfl
  rename_i hlen
  split
  · rename_i j hj
    exact State.Event.leads (s := s) (.submit j (Nat.not_le.mp hlen)) rfl
  · exact State.leads_of_desk rfl

theorem execAbortActive_leads {c : IoCycle} {s t : State} (h : execAbortActive c s = .next t) : s.Leads t := by
  refine State.command_leads h ?_
  unfold State.runAbortActive
  split
  · rename_i a ha
    exact State.Event.leads (s := s) (.abort a ha) rfl
  all_goals exact State.leads_of_desk rfl

theorem execPopFault_leads {c : IoCycle} {s t : State} (h : execPopFault c s = .next t) : s.Leads t := by
  refine State.command_leads h ?_
  unfold State.runPopFault
  split
  · exact State.leads_of_desk rfl
  · rename_i r rest hr
    exact State.Event.leads (s := s) (.popFault r rest hr) rfl

theorem execPopCompletion_leads {c : IoCycle} {s t : State} (h : execPopCompletion c s = .next t) : s.Leads t := by
  refine State.command_leads h ?_
  unfold State.runPopCompletion
  split
  · exact State.leads_of_desk rfl
  rename_i r rest hr
  split
  · rename_i q hq
    exact State.Event.leads (s := s) (.popRetiring r q rest hr hq) rfl
  · rename_i hq
    exact State.Event.leads (s := s) (.popCompletion r rest hr hq) rfl

/-! ### Every command -/

/-- Every command is one event, after which the Work Store port may settle: what a command can do to the desk, said
once. -/
theorem exec_leads {i : Instr} {s t : State} (h : exec i s = .next t) : s.Leads t := by
  cases i with
  | hostMemoryCycleArrival c => exact execHostMemoryCycleArrival_leads h
  | unclaimedIoCycle dir c => exact execUnclaimedIoCycle_leads h
  | unclaimedCycleEnd => exact execUnclaimedCycleEnd_leads h
  | hostWaitTimeout => exact execHostWaitTimeout_leads h
  | hostBootReadComplete => exact execHostBootReadComplete_leads h
  | hostWorkReadComplete => exact execHostWorkReadComplete_leads h
  | unpostedWriteComplete => exact execUnpostedWriteComplete_leads h
  | drainComplete => exact execDrainComplete_leads h
  | activation => exact execActivation_leads h
  | engineBootReadComplete => exact execEngineBootReadComplete_leads h
  | lineWriteComplete => exact execLineWriteComplete_leads h
  | verifyReadComplete => exact execVerifyReadComplete_leads h
  | arbiterTick => exact State.leads_of_done h s.tick_leads
  | guaranteeExpiry => exact execGuaranteeExpiry_leads h
  | idleExpiry => exact execIdleExpiry_leads h
  | areqAssert => exact execAreqAssert_leads h
  | areqDeassert => exact execAreqDeassert_leads h
  | auxCycleStart c => exact execAuxCycleStart_leads h
  | auxAccessComplete => exact execAuxAccessComplete_leads h
  | astbDrop => exact execAstbDrop_leads h
  | astbAssertionDuringAccess => exact execAstbAssertionDuringAccess_leads h
  | resetAssert => exact execResetAssert_leads h
  | resetRelease st => exact execResetRelease_leads h
  | indexPortWrite c => exact execIndexPortWrite_leads h
  | hostWaitLimitWrite c =>
    exact State.dataWrite_leads (show execHostWaitLimitWrite c s = .next t from h) fun hf _ b =>
      (State.Event.waitLimit b (s.busFree_iff.mp hf).1).leads rfl
  | interruptMaskWrite c =>
    exact State.dataWrite_leads (show execInterruptMaskWrite c s = .next t from h) fun _ _ b =>
      (State.Event.mask (b.setWidth 4)).leads rfl
  | stagingWrite c => exact State.dataWrite_quiet (show execStagingWrite c s = .next t from h) fun _ _ _ => rfl
  | postingEnableWrite c =>
    exact State.dataWrite_quiet (show execPostingEnableWrite c s = .next t from h) fun _ _ _ => rfl
  | parityTerminationWrite c =>
    exact State.dataWrite_quiet (show execParityTerminationWrite c s = .next t from h) fun _ _ _ => rfl
  | parityCheckEnableWrite c =>
    exact State.dataWrite_quiet (show execParityCheckEnableWrite c s = .next t from h) fun _ _ _ => rfl
  | bootAccessTimeWrite c =>
    exact State.dataWrite_quiet (show execBootAccessTimeWrite c s = .next t from h) fun _ _ _ => rfl
  | guaranteeWrite c => exact State.dataWrite_quiet (show execGuaranteeWrite c s = .next t from h) fun _ _ _ => rfl
  | idleWindowWrite c => exact State.dataWrite_quiet (show execIdleWindowWrite c s = .next t from h) fun _ _ _ => rfl
  | registerWrite c => exact execRegisterWrite_leads h
  | setWindow c => exact State.command_quiet h State.runSetWindow_desk
  | commitRoute c => exact State.command_quiet h State.runCommitRoute_desk
  | loadRoute c => exact State.command_quiet h State.runLoadRoute_desk
  | lockRouting c => exact State.command_quiet h fun _ => rfl
  | commitOverlay c => exact State.command_quiet h State.runCommitOverlay_desk
  | loadOverlay c => exact State.command_quiet h State.runLoadOverlay_desk
  | submitJob c => exact execSubmitJob_leads h
  | abortActive c => exact execAbortActive_leads h
  | flushQueued c => exact State.command_leads h (State.Event.flush.leads rfl)
  | engineReset c => exact State.command_leads h (State.Event.engineReset.leads_settle rfl)
  | monitorStart c => exact State.command_quiet h fun _ => rfl
  | monitorStop c => exact State.command_quiet h fun _ => rfl
  | snapshotMonitor c => exact State.command_quiet h fun _ => rfl
  | setAuxWindow c => exact State.command_quiet h State.runSetAuxWindow_desk
  | popFault c => exact execPopFault_leads h
  | clearOverflow c => exact State.command_leads h (State.Event.clearOverflow.leads rfl)
  | popCompletion c => exact execPopCompletion_leads h
  | commitSelect c => exact State.command_quiet h State.runCommitSelect_desk
  | loadSelect c => exact State.command_quiet h State.runLoadSelect_desk
  | setPorts c => exact State.command_quiet h State.runSetPorts_desk
  | unknownCommand c => exact State.command_quiet (show execUnknownCommand c s = .next t from h) fun _ => rfl

/-- A property of the desk that every event keeps, and the settling of the Work Store port after it, is kept by every
step. The property may be kept from a stronger one `P`, which the queue of commands is no part of. -/
theorem step_keeps_desk {P Q : State → Prop} (hdesk : ∀ u v : State, v.desk = u.desk → Q u → Q v)
    (hevent : ∀ u v : State, P u → u.Event v → Q v) (hsettle : ∀ u : State, Q u → Q u.settle)
    (hpop : ∀ (u : State) (rest : List Instr), P u → P { u with pending := rest }) {s t : State} (hs : P s)
    (h : step s = .next t) : Q t := by
  unfold step at h
  split at h
  · cases h
    exact hevent s s hs (.plain s (.inl rfl))
  · rename_i c rest _
    obtain ⟨u, v, he, hv, ht⟩ := exec_leads h
    have hq : Q v := hdesk u v hv (hevent _ u (hpop s rest hs) he)
    rcases ht with ht | ht
    · exact hdesk v t ht hq
    · exact hdesk _ t ht (hsettle v hq)

end Sys2Proof.Machine
end

section
/-! PROOF. The bounds of the queues, the coalescing of the Fault Queue and the rule of RETIRING, which every event
keeps (O8). -/

namespace Sys2Proof.Machine

/-! ### The Fault Queue -/

/-- Two neighbours of the Fault Queue, the older first, are not to be coalesced (R136). -/
def FaultRecord.Apart (a b : FaultRecord) : Prop := a.agrees b = true → a.repeats = 255#8

theorem coalesced_iff_isChain (l : List FaultRecord) : Coalesced l ↔ l.IsChain FaultRecord.Apart := by
  induction l with
  | nil => simp [Coalesced]
  | cons a l ih =>
    cases l with
    | nil => simp [Coalesced]
    | cons b rest => rw [Coalesced, ih, List.isChain_cons_cons, FaultRecord.Apart]

/-- A record joins a coalesced queue where the newest is apart from it. -/
theorem coalesced_append (l : List FaultRecord) (x : FaultRecord) :
    Coalesced (l ++ [x]) ↔ Coalesced l ∧ ∀ n ∈ l.getLast?, n.Apart x := by
  simp [coalesced_iff_isChain, List.isChain_append]

/-- The Fault Queue, the overflow flag and the count of lost faults (R135, R136, R138). -/
def Rpu.Legal (u : Rpu) : Prop :=
  u.faults.length ≤ 8 ∧ (∀ r ∈ u.faults, r.repeats ≠ 0#8) ∧ Coalesced u.faults ∧ (u.lost ≠ 0#8 → u.overflow = true)

/-- What the Reporting Unit does with a fault: it coalesces it into the newest record, appends it, or counts it as lost
(R136 to R138). -/
theorem Rpu.takeFault_cases (u : Rpu) (f : FaultRecord) :
    (∃ l n, u.faults = l ++ [n] ∧ n.repeats ≠ 255#8
        ∧ u.takeFault f = { u with faults := l ++ [{ n with repeats := n.repeats + 1#8 }] })
      ∨ (u.faults.length < 8 ∧ (∀ n ∈ u.faults.getLast?, n.Apart f)
        ∧ u.takeFault f = { u with faults := u.faults ++ [{ f with repeats := 1#8 }] })
      ∨ u.takeFault f = { u with overflow := true, lost := if u.lost = 255#8 then 255#8 else u.lost + 1#8 } := by
  cases hlast : u.faults.getLast? with
  | none =>
    have hnil : u.faults = [] := List.getLast?_eq_none_iff.mp hlast
    exact .inr (.inl ⟨by simp [hnil], by simp, by simp [Rpu.takeFault, hnil]⟩)
  | some n =>
    obtain ⟨l, hl⟩ := List.getLast?_eq_some_iff.mp hlast
    unfold Rpu.takeFault
    rw [hlast]
    dsimp only
    split
    · rename_i hagree
      simp only [Bool.and_eq_true, decide_eq_true_eq] at hagree
      exact .inl ⟨l, n, hl, hagree.2, by rw [hl, List.dropLast_concat]⟩
    · rename_i hagree
      have hapart : n.Apart f := fun ha => by simpa [ha] using hagree
      split
      · rename_i hlen
        exact .inr (.inl ⟨hlen, by simpa using hapart, rfl⟩)
      · exact .inr (.inr rfl)

/-- The repeats of a record that still coalesces advance without wrapping to 0. -/
theorem repeats_succ_ne_zero (n : Byte) (h : n ≠ 255#8) : n + 1#8 ≠ 0#8 := by
  revert n
  decide

/-- A fault taken keeps the Fault Queue legal. -/
theorem Rpu.Legal.takeFault {u : Rpu} (h : u.Legal) (f : FaultRecord) : (u.takeFault f).Legal := by
  obtain ⟨hbound, hrep, hco, hlost⟩ := h
  rcases u.takeFault_cases f with ⟨l, n, hl, hmax, ht⟩ | ⟨hlen, hapart, ht⟩ | ht
  · rw [ht]
    rw [hl, List.length_append] at hbound
    rw [hl, List.forall_mem_append] at hrep
    rw [hl, coalesced_append] at hco
    refine ⟨by simpa using hbound, List.forall_mem_append.mpr ⟨hrep.1, ?_⟩, (coalesced_append _ _).mpr hco, hlost⟩
    exact List.forall_mem_singleton.mpr (repeats_succ_ne_zero _ hmax)
  · rw [ht]
    have hnew : (1#8 : Byte) ≠ 0#8 := by decide
    refine ⟨by simpa using hlen, List.forall_mem_append.mpr ⟨hrep, ?_⟩, (coalesced_append _ _).mpr ⟨hco, hapart⟩, hlost⟩
    exact List.forall_mem_singleton.mpr hnew
  · rw [ht]
    exact ⟨hbound, hrep, hco, fun _ => rfl⟩

/-! ### The Completion List -/

/-- At most 8 completion records, and 8 of them while the engine is RETIRING (R144, R145). -/
def EngineState.ListLegal (e : EngineState) (l : List CompletionRecord) : Prop :=
  l.length ≤ 8 ∧ (e.code = 3#8 → l.length = 8)

/-- An engine that is not RETIRING asks for the bound alone. -/
theorem EngineState.listLegal_of_not_retiring {e : EngineState} {l : List CompletionRecord}
    (he : ∀ r, e ≠ .retiring r) (hl : l.length ≤ 8) : e.ListLegal l := by
  refine ⟨hl, fun hcode => ?_⟩
  cases e with
  | retiring r => exact absurd rfl (he r)
  | idle => exact absurd hcode (by decide)
  | running a => exact absurd hcode (show ¬ 1#8 = 3#8 by decide)
  | draining a => exact absurd hcode (show ¬ 2#8 = 3#8 by decide)

theorem State.queuesLegal_iff (s : State) :
    s.QueuesLegal ↔ s.hbi.buffer.length ≤ 4 ∧ s.txe.queue.length ≤ 8 ∧ s.rpu.Legal
      ∧ s.txe.engine.ListLegal s.rpu.completions := by
  unfold State.QueuesLegal Rpu.Legal EngineState.ListLegal
  tauto

/-- The bounds are about the desk alone. -/
theorem State.queuesLegal_of_desk {s t : State} (e : t.desk = s.desk) (h : s.QueuesLegal) : t.QueuesLegal := by
  simp only [State.desk, Desk.mk.injEq] at e
  obtain ⟨-, -, hbuffer, -, -, hqueue, hengine, -, -, -, hrpu⟩ := e
  rw [State.queuesLegal_iff] at h ⊢
  rw [hbuffer, hqueue, hengine, hrpu]
  exact h

theorem State.QueuesLegal.handFault {s : State} (h : s.QueuesLegal) (f : FaultRecord) :
    (s.handFault f).QueuesLegal := by
  rw [State.queuesLegal_iff] at h ⊢
  obtain ⟨hbuffer, hqueue, hrpu, hlist⟩ := h
  refine ⟨hbuffer, hqueue, hrpu.takeFault f, ?_⟩
  rw [State.handFault_rpu, (s.rpu.takeFault_keeps f).1]
  exact hlist

theorem State.QueuesLegal.reported {s v : State} (h : s.QueuesLegal) (hv : s.Reported v) : v.QueuesLegal := by
  rcases hv with e | ⟨f, e⟩
  · exact State.queuesLegal_of_desk e h
  · exact State.queuesLegal_of_desk e (h.handFault f)

/-! ### The engine -/

/-- Another stage of its line leaves the code of the engine's state. -/
theorem EngineState.mapActive_code (f : ActiveJob → ActiveJob) (e : EngineState) : (e.mapActive f).code = e.code := by
  cases e <;> rfl

theorem State.QueuesLegal.setStage {s : State} (h : s.QueuesLegal) (st : LineStage) : (s.setStage st).QueuesLegal := by
  unfold State.QueuesLegal at h ⊢
  rw [State.setStage_txe, EngineState.mapActive_code]
  exact h

theorem State.QueuesLegal.beginLine {s : State} (h : s.QueuesLegal) (a : ActiveJob) : (s.beginLine a).QueuesLegal := by
  rw [State.queuesLegal_iff] at h
  obtain ⟨hbuffer, hqueue, hrpu, hlen, -⟩ := h
  unfold State.beginLine
  dsimp only
  repeat' split
  all_goals
    exact (State.queuesLegal_iff _).mpr ⟨hbuffer, hqueue, hrpu, EngineState.listLegal_of_not_retiring nofun hlen⟩

/-- A completion record offered takes a place of the list or is held by an engine RETIRING (R145). -/
theorem State.QueuesLegal.offer {s : State} (h : s.QueuesLegal) (r : CompletionRecord) : (s.offer r).QueuesLegal := by
  rw [State.queuesLegal_iff] at h
  obtain ⟨hbuffer, hqueue, hrpu, hlen, -⟩ := h
  unfold State.offer
  split
  · rename_i hfree
    exact (State.queuesLegal_iff _).mpr
      ⟨hbuffer, hqueue, hrpu, EngineState.listLegal_of_not_retiring nofun (by simpa using hfree)⟩
  · rename_i hfull
    exact (State.queuesLegal_iff _).mpr ⟨hbuffer, hqueue, hrpu, hlen,
      fun _ => Nat.le_antisymm hlen (Nat.not_lt.mp hfull)⟩

theorem State.settleAction_desk (s : State) (a : ActiveJob) (o : JobOutcome) : (s.settleAction a o).desk = s.desk := by
  unfold State.settleAction
  repeat' split
  all_goals rfl

theorem State.QueuesLegal.jobEnd {s : State} (h : s.QueuesLegal) (a : ActiveJob) (o : JobOutcome) (q : Reason) :
    (s.jobEnd a o q).QueuesLegal :=
  have hclear : State.QueuesLegal { s with rtu := { s.rtu with pin := none }, txe := { s.txe with map := none } } := h
  State.QueuesLegal.offer (State.queuesLegal_of_desk (State.settleAction_desk _ a o) hclear) _

theorem State.QueuesLegal.completeLine {s : State} (h : s.QueuesLegal) (r : LineResult) :
    (s.completeLine r).QueuesLegal :=
  State.completeLine_keeps State.QueuesLegal s r h h.beginLine h.jobEnd

/-! ### The store ports -/

theorem State.QueuesLegal.settle {s : State} (h : s.QueuesLegal) : s.settle.QueuesLegal := by
  refine State.arbitrate_keeps State.QueuesLegal (fun _ _ hu => hu) (fun u o f hu => ?handover) (fun u o hu => ?expire)
    (fun u r hu => ?serve) (fun _ _ hu => hu) 8 s h
  case handover => exact State.queuesLegal_of_desk (State.handover_desk ..) hu
  case expire =>
    unfold State.expireOnRelease
    split
    all_goals exact hu
  case serve =>
    cases r with
    | hostPath =>
      show u.serveHost.QueuesLegal
      unfold State.serveHost
      repeat' split
      all_goals exact hu
    | engine =>
      exact State.serveEngine_keeps State.QueuesLegal (fun v a st hv => State.QueuesLegal.setStage hv st)
        (fun v hv => hv.completeLine .skipped) _ u hu
    | aux => exact hu

theorem State.QueuesLegal.bootNext {s : State} (h : s.QueuesLegal) : s.bootNext.QueuesLegal := by
  unfold State.bootNext
  split
  · exact h
  · split
    · exact State.QueuesLegal.setStage h _
    · exact h

/-- A drain makes the room a write that waited for a slot takes. -/
theorem State.QueuesLegal.afterDrain {s : State} (h : s.QueuesLegal) (hlen : s.hbi.buffer.length < 4) :
    s.afterDrain.QueuesLegal := by
  obtain ⟨-, hrest⟩ := h
  unfold State.afterDrain
  split
  · split
    · exact ⟨by simpa using hlen, hrest⟩
    · split
      all_goals exact ⟨Nat.le_of_lt hlen, hrest⟩
    · exact ⟨Nat.le_of_lt hlen, hrest⟩
  · exact ⟨Nat.le_of_lt hlen, hrest⟩

/-! ### Every event -/

theorem Rpu.Legal.popFault {u : Rpu} (h : u.Legal) {r : FaultRecord} {rest : List FaultRecord}
    (hf : u.faults = r :: rest) : Rpu.Legal { u with faults := rest } := by
  obtain ⟨hbound, hrep, hco, hlost⟩ := h
  rw [hf] at hbound hrep hco
  rw [coalesced_iff_isChain] at hco
  exact ⟨Nat.le_of_succ_le hbound, fun x hx => hrep x (List.mem_cons_of_mem r hx),
    (coalesced_iff_isChain _).mpr hco.tail, hlost⟩

theorem defaultRpu_legal : defaultRpu.Legal :=
  ⟨Nat.zero_le _, fun _ hr => absurd hr List.not_mem_nil, trivial, fun hl => absurd rfl hl⟩

/-- Every event keeps the bounds. -/
theorem State.QueuesLegal.event {s t : State} (h : s.QueuesLegal) (e : s.Event t) : t.QueuesLegal := by
  obtain ⟨hbuffer, hqueue, hrpu, hlen, hcode⟩ := s.queuesLegal_iff.mp h
  cases e with
  | plain _ hv => exact h.reported hv
  | waitLimit | mask | note | workArrive | slotArrive => exact h
  | ended v a hv =>
    have hreported : v.QueuesLegal := h.reported hv
    exact hreported
  | timeout v c w a hv =>
    have hreported : v.QueuesLegal := h.reported hv
    exact hreported
  | bootArrive =>
    unfold State.arriveBootRead
    split
    all_goals exact h
  | post e a hf hroom => exact ⟨by simpa using hroom, h.2⟩
  | hostBoot b c a => exact State.QueuesLegal.bootNext (s := s.endCycle a) h
  | drain x rest v hb hv =>
    have hroom : rest.length < 4 := by
      rw [hb] at hbuffer
      exact hbuffer
    have hleft : State.QueuesLegal { s with hbi := { s.hbi with buffer := rest } } := ⟨Nat.le_of_lt hroom, h.2⟩
    have hvb : v.hbi.buffer = rest := congrArg Desk.buffer hv
    exact (State.queuesLegal_of_desk hv hleft).afterDrain (by rw [hvb]; exact hroom)
  | refuseJob j rest r hidle hq =>
    rw [hq] at hqueue
    have hpop : State.QueuesLegal { s with txe := { s.txe with queue := rest } } :=
      (State.queuesLegal_iff _).mpr ⟨hbuffer, Nat.le_of_succ_le hqueue, hrpu, hlen, hcode⟩
    exact hpop.offer r
  | activate j rest hidle hq =>
    rw [hq] at hqueue
    have hpop : State.QueuesLegal { s with txe := { s.txe with queue := rest } } :=
      (State.queuesLegal_iff _).mpr ⟨hbuffer, Nat.le_of_succ_le hqueue, hrpu, hlen, hcode⟩
    unfold State.activated
    refine State.QueuesLegal.beginLine ?_ _
    exact hpop
  | engineBoot b d => exact (h.setStage _).bootNext
  | droppedBoot => exact h.bootNext
  | line v r hv => exact (h.reported hv).completeLine r
  | submit j hroom => exact (State.queuesLegal_iff _).mpr ⟨hbuffer, by simpa using hroom, hrpu, hlen, hcode⟩
  | flush => exact (State.queuesLegal_iff _).mpr ⟨hbuffer, Nat.zero_le _, hrpu, hlen, hcode⟩
  | abort =>
    exact (State.queuesLegal_iff _).mpr ⟨hbuffer, hqueue, hrpu, EngineState.listLegal_of_not_retiring nofun hlen⟩
  | engineReset =>
    exact (State.queuesLegal_iff _).mpr
      ⟨hbuffer, Nat.zero_le _, hrpu, EngineState.listLegal_of_not_retiring nofun hlen⟩
  | popFault r rest hf => exact (State.queuesLegal_iff _).mpr ⟨hbuffer, hqueue, hrpu.popFault hf, hlen, hcode⟩
  | clearOverflow =>
    obtain ⟨hbound, hrep, hco, -⟩ := hrpu
    exact (State.queuesLegal_iff _).mpr ⟨hbuffer, hqueue, ⟨hbound, hrep, hco, fun hl => absurd rfl hl⟩, hlen, hcode⟩
  | popCompletion r rest hc he =>
    rw [hc] at hlen
    exact (State.queuesLegal_iff _).mpr
      ⟨hbuffer, hqueue, hrpu, EngineState.listLegal_of_not_retiring he (Nat.le_of_succ_le hlen)⟩
  | popRetiring r q rest hc he =>
    rw [hc] at hlen
    exact (State.queuesLegal_iff _).mpr
      ⟨hbuffer, hqueue, hrpu, EngineState.listLegal_of_not_retiring nofun (by simpa using hlen)⟩
  | resetAssert | resetRelease =>
    exact (State.queuesLegal_iff _).mpr ⟨Nat.zero_le _, Nat.zero_le _, defaultRpu_legal,
      EngineState.listLegal_of_not_retiring nofun (Nat.zero_le _)⟩

/-- Settles O8: every event keeps the bounds, and so does the settling of the Work Store port after it. -/
theorem stepKeepsQueuesLegal : Obligations.StepKeepsQueuesLegal :=
  fun _ _ hs h => step_keeps_desk (P := State.QueuesLegal) (fun _ _ => State.queuesLegal_of_desk)
    (fun _ _ => State.QueuesLegal.event) (fun _ => State.QueuesLegal.settle) (fun _ _ hu => hu) hs h

end Sys2Proof.Machine
end

section
/-! PROOF. The host cycle in progress and the Boot Store port, which every event keeps legal (O11). -/

namespace Sys2Proof.Machine

/-! ### The host cycle in progress, case by case -/

/-- The state of Table 3-2 fits the cycle's direction and the Write Post Buffer. -/
def HostCycle.Fits (c : HostCycle) (buffer : List PostEntry) : Prop :=
  match c.stage with
  | .awaitBoot | .bootAccess => c.dir = .read
  | .awaitDrain => buffer ≠ []
  | .awaitWork | .workAccess => buffer = []
  | .awaitSlot => c.dir = .write ∧ buffer.length = 4

/-- The host's access is the one in progress at the Boot Store Controller. -/
def Bsc.ReadsForHost (b : Bsc) : Prop := ∃ x ∈ b.accessor, x.user = .hostPath

/-- Without a cycle in progress the timer is stopped and nothing is asked of the Boot Store. -/
theorem State.hostLegal_iff_free {s : State} (hc : s.hbi.cycle = none) :
    s.HostLegal ↔ s.hbi.timerRunning = false ∧ s.bsc.hostRequest = none ∧ ¬ s.bsc.ReadsForHost := by
  unfold State.HostLegal Bsc.ReadsForHost
  simp [hc]

theorem State.hostLegal_iff_held {s : State} {c : HostCycle} (hc : s.hbi.cycle = some c) :
    s.HostLegal ↔ s.hbi.unclaimed = false ∧ (s.hbi.timerRunning = true ↔ s.hbi.waitLimit ≠ 0#8 ∧ c.stage.waits = true)
      ∧ (s.bsc.hostRequest ≠ none ↔ c.stage = .awaitBoot) ∧ (s.bsc.ReadsForHost ↔ c.stage = .bootAccess)
      ∧ c.Fits s.hbi.buffer := by
  unfold Bsc.ReadsForHost
  constructor
  · rintro ⟨hnote, htimer, hrequest, hread, hfits⟩
    exact ⟨by simpa [hc] using hnote, by simpa [hc] using htimer, by simpa [hc] using hrequest,
      by simpa [hc] using hread, hfits c hc⟩
  · rintro ⟨hnote, htimer, hrequest, hread, hfits⟩
    refine ⟨by simp [hnote], by simpa [hc] using htimer, by simpa [hc] using hrequest, by simpa [hc] using hread,
      fun d hd => ?_⟩
    obtain rfl : c = d := by simpa [hc] using hd
    exact hfits

/-- The legality of the host cycle is about the desk alone. -/
theorem State.hostLegal_of_desk {s t : State} (e : t.desk = s.desk) (h : s.HostLegal) : t.HostLegal := by
  simp only [State.desk, Desk.mk.injEq] at e
  obtain ⟨hcycle, hunclaimed, hbuffer, htimer, hlimit, -, -, haccessor, hrequest, -⟩ := e
  unfold State.HostLegal at h ⊢
  rw [hcycle, hunclaimed, hbuffer, htimer, hlimit, haccessor, hrequest]
  exact h

/-! ### The Boot Store port, by the stage of the line in progress -/

/-- No line of the engine is at the Boot Store: it waits for no Boot Store access and has none in progress. -/
def EngineState.AwayFromBoot (e : EngineState) : Prop := ∀ a ∈ e.active, a.stage ≠ .awaitBoot ∧ a.stage ≠ .bootRead

/-- An access is dropped exactly where it is no one's: the engine's, with its job discarded (R84). -/
def Bsc.NoEngineRead (b : Bsc) : Prop := ∀ x ∈ b.accessor, x.dropped = true ↔ x.user = .engine

theorem State.bootPortLegal_iff_away {s : State} (h : s.txe.engine.AwayFromBoot) :
    s.BootPortLegal ↔ (s.bsc.accessor = none → s.bsc.hostRequest = none) ∧ s.bsc.engineRequest = none
      ∧ s.bsc.NoEngineRead := by
  have hrequest : (s.txe.engine.active.bind fun a =>
      if a.stage = .awaitBoot then some (a.bootOffset a.nextLine) else none) = none := by
    refine Option.bind_eq_none_iff.mpr fun a ha => ?_
    exact if_neg (h a ha).1
  have hread : ¬ ∃ a ∈ s.txe.engine.active, a.stage = .bootRead := fun ⟨a, ha, hs⟩ => (h a ha).2 hs
  unfold State.BootPortLegal Bsc.NoEngineRead
  rw [hrequest]
  simp only [hread, iff_false]
  cases hx : s.bsc.accessor with
  | none => simp
  | some x => cases hu : x.user <;> cases hd : x.dropped <;> simp [hu, hd]

theorem State.bootPortLegal_iff_awaitBoot {s : State} {a : ActiveJob} (ha : s.txe.engine.active = some a)
    (hs : a.stage = .awaitBoot) :
    s.BootPortLegal ↔ s.bsc.accessor ≠ none ∧ s.bsc.engineRequest = some (a.bootOffset a.nextLine)
      ∧ s.bsc.NoEngineRead := by
  unfold State.BootPortLegal Bsc.NoEngineRead
  simp only [ha]
  cases hx : s.bsc.accessor with
  | none => simp [hs]; intro _ h; simp [h]
  | some x => cases hu : x.user <;> cases hd : x.dropped <;> simp [hs, hu, hd]

theorem State.bootPortLegal_iff_bootRead {s : State} {a : ActiveJob} (ha : s.txe.engine.active = some a)
    (hs : a.stage = .bootRead) :
    s.BootPortLegal ↔ s.bsc.engineRequest = none
      ∧ ∃ x, s.bsc.accessor = some x ∧ x.user = .engine ∧ x.dropped = false ∧ x.offset = a.bootOffset a.nextLine := by
  unfold State.BootPortLegal
  simp only [ha]
  cases hx : s.bsc.accessor with
  | none => simp [hs]
  | some x => cases hu : x.user <;> cases hd : x.dropped <;> simp [hs, hu, hd]

/-- The legality of the Boot Store port is about the desk alone. -/
theorem State.bootPortLegal_of_desk {s t : State} (e : t.desk = s.desk) (h : s.BootPortLegal) : t.BootPortLegal := by
  simp only [State.desk, Desk.mk.injEq] at e
  obtain ⟨-, -, -, -, -, -, hengine, haccessor, hhost, hrequest, -⟩ := e
  unfold State.BootPortLegal at h ⊢
  rw [hengine, haccessor, hhost, hrequest]
  exact h

/-! ### Lines and job ends -/

/-- The host cycle in progress and the Boot Store port are legal. -/
def State.HostAndBootLegal (s : State) : Prop := s.HostLegal ∧ s.BootPortLegal

theorem State.hostAndBootLegal_of_desk {s t : State} (e : t.desk = s.desk) (h : s.HostAndBootLegal) :
    t.HostAndBootLegal :=
  ⟨State.hostLegal_of_desk e h.1, State.bootPortLegal_of_desk e h.2⟩

/-- The host cycle stays legal where it, its request and its place at the Boot Store Controller stay. -/
theorem State.HostLegal.of_reads {s t : State} (h : s.HostLegal) (hh : t.hbi = s.hbi)
    (hq : t.bsc.hostRequest = s.bsc.hostRequest) (hr : t.bsc.ReadsForHost ↔ s.bsc.ReadsForHost) : t.HostLegal := by
  unfold Bsc.ReadsForHost at hr
  unfold State.HostLegal at h ⊢
  rw [hh, hq, hr]
  exact h

/-- Between cycles the note and the settings do not matter. -/
theorem State.HostLegal.of_free {s t : State} (h : s.HostLegal) (hc : s.hbi.cycle = none) (hc' : t.hbi.cycle = none)
    (ht : t.hbi.timerRunning = s.hbi.timerRunning) (hb : t.bsc = s.bsc) : t.HostLegal := by
  rw [State.hostLegal_iff_free hc] at h
  rw [State.hostLegal_iff_free hc', ht, hb]
  exact h

/-- An access of the engine's is none of the host's. -/
theorem Bsc.not_readsForHost {b : Bsc} {x : BootAccess} (hx : b.accessor = some x) (hu : x.user = .engine) :
    ¬ b.ReadsForHost := by
  rintro ⟨y, hy, hyu⟩
  obtain rfl : x = y := Option.some.inj (hx.symm.trans hy)
  rw [hu] at hyu
  cases hyu

theorem Bsc.not_readsForHost_of_free {b : Bsc} (hx : b.accessor = none) : ¬ b.ReadsForHost := by
  rintro ⟨y, hy, -⟩
  rw [hx] at hy
  cases hy

/-- While the engine is away from the Boot Store its job may go on to another stage away from it, or end. -/
theorem State.BootPortLegal.of_away {s t : State} (h : s.BootPortLegal) (hs : s.txe.engine.AwayFromBoot)
    (ht : t.txe.engine.AwayFromBoot) (hb : t.bsc = s.bsc) : t.BootPortLegal := by
  rw [State.bootPortLegal_iff_away hs] at h
  rw [State.bootPortLegal_iff_away ht, hb]
  exact h

/-- A settled action and an offered record leave the host cycle and the Boot Store port. -/
theorem State.jobEnd_host (s : State) (a : ActiveJob) (o : JobOutcome) (q : Reason) :
    (s.jobEnd a o q).hbi = s.hbi ∧ (s.jobEnd a o q).bsc = s.bsc := by
  unfold State.jobEnd State.retire State.offer State.settleAction
  repeat' split
  all_goals exact ⟨rfl, rfl⟩

theorem EngineState.awayFromBoot_of_inactive {e : EngineState} (h : e.active = none) : e.AwayFromBoot := by
  intro a ha
  rw [h] at ha
  cases ha

theorem EngineState.awayFromBoot_of_active {e : EngineState} {a : ActiveJob} (ha : e.active = some a)
    (h : a.stage ≠ .awaitBoot ∧ a.stage ≠ .bootRead) : e.AwayFromBoot := by
  intro b hb
  rw [ha] at hb
  cases hb
  exact h

theorem State.HostAndBootLegal.jobEnd {s : State} (h : s.HostAndBootLegal) (hs : s.txe.engine.AwayFromBoot)
    (a : ActiveJob) (o : JobOutcome) (q : Reason) : (s.jobEnd a o q).HostAndBootLegal := by
  obtain ⟨hhbi, hbsc⟩ := s.jobEnd_host a o q
  obtain ⟨-, -, -, hnone⟩ := s.jobEnd_engine a o q
  exact ⟨h.1.of_reads hhbi (by rw [hbsc]) (by rw [hbsc]),
    h.2.of_away hs (EngineState.awayFromBoot_of_inactive hnone) hbsc⟩

/-- A line that begins after one away from the Boot Store starts its read or asks for it (R66, R67). -/
theorem State.HostAndBootLegal.beginLine {s : State} (h : s.HostAndBootLegal) (hs : s.txe.engine.AwayFromBoot)
    (a : ActiveJob) : (s.beginLine a).HostAndBootLegal := by
  obtain ⟨hhost, hboot⟩ := h
  have haway := (State.bootPortLegal_iff_away hs).mp hboot
  obtain ⟨hfree, hrequest, hdropped⟩ := haway
  unfold State.beginLine
  dsimp only
  split
  · exact ⟨hhost, hboot.of_away hs (EngineState.awayFromBoot_of_active rfl ⟨nofun, nofun⟩) rfl⟩
  split
  · rename_i hidle
    simp only [Bool.and_eq_true, Option.isNone_iff_eq_none] at hidle
    obtain ⟨hnone, -⟩ := hidle
    exact ⟨hhost.of_reads rfl rfl
        (iff_of_false (Bsc.not_readsForHost rfl rfl) (Bsc.not_readsForHost_of_free hnone)),
      (State.bootPortLegal_iff_bootRead (a := { a with stage := .bootRead }) rfl rfl).mpr
        ⟨rfl, _, rfl, rfl, rfl, rfl⟩⟩
  · rename_i hbusy
    refine ⟨hhost, (State.bootPortLegal_iff_awaitBoot (a := { a with stage := .awaitBoot }) rfl rfl).mpr
      ⟨fun hnone => hbusy ?_, rfl, hdropped⟩⟩
    change s.bsc.accessor = none at hnone
    simp [hnone, hfree hnone]

theorem State.HostAndBootLegal.completeLine {s : State} (h : s.HostAndBootLegal) (hs : s.txe.engine.AwayFromBoot)
    (r : LineResult) : (s.completeLine r).HostAndBootLegal :=
  State.completeLine_keeps State.HostAndBootLegal s r h (h.beginLine hs) (h.jobEnd hs)

/-! ### The settling of the Work Store port -/

/-- A property that no change of the arbiter's block touches, and that the next access of an owner that wants the port
keeps, holds after the port is settled. -/
theorem State.settle_keeps (P : State → Prop) (hwpa : ∀ (s : State) (w : Wpa), P s → P { s with wpa := w })
    (hserve : ∀ (s : State) (r : Requester), P s → s.wants r = true → P (s.serve r)) (s : State) (h : P s) :
    P s.settle := by
  have hhandover (u : State) (o : Requester) (f : Bool) (hu : P u) : P (u.handover o f) := by
    unfold State.handover
    repeat' split
    · exact hu
    · exact hwpa _ _ (hwpa _ _ hu)
    · exact hu
  have hexpire (u : State) (o : Requester) (hu : P u) : P (u.expireOnRelease o) := by
    unfold State.expireOnRelease
    split
    · exact hwpa _ _ hu
    · exact hu
  have harbitrate (n : Nat) : ∀ u, P u → P (State.arbitrate n u) := by
    induction n with
    | zero => exact fun u hu => hu
    | succ n ih =>
      intro u hu
      unfold State.arbitrate
      split
      · exact hu
      split
      · split
        · exact hu
        · exact ih _ (hwpa _ _ hu)
      · rename_i o ho
        have hv := hexpire u o hu
        dsimp only
        split
        · exact ih _ (hhandover _ _ _ hv)
        split
        · rename_i hwants
          exact ih _ (hserve _ o (hwpa _ _ hv) hwants.1)
        repeat' split
        · exact hv
        · exact ih _ (hhandover _ _ _ hv)
        · exact hwpa _ _ hv
        · exact hwpa _ _ hv
  exact harbitrate 8 s h

/-- A line in the Work Store's hands is away from the Boot Store. -/
theorem LineStage.away_of_inAccess {st : LineStage} (h : st.inAccess = true) :
    st ≠ .awaitBoot ∧ st ≠ .bootRead := by
  cases st <;> simp_all [LineStage.inAccess]

/-- A line that starts its Work Store access stays away from the Boot Store. -/
theorem State.HostAndBootLegal.startLine {s : State} (h : s.HostAndBootLegal) {a : ActiveJob}
    (ha : s.txe.engine.active = some a) (hs : s.txe.engine.AwayFromBoot) (w : WorkAccess) {st : LineStage}
    (hst : st.inAccess = true) : ((s.startAccess w).setStage st).HostAndBootLegal := by
  refine ⟨h.1, h.2.of_away hs (EngineState.awayFromBoot_of_active (a := { a with stage := st }) ?_ ?_) rfl⟩
  · rw [State.setStage_txe, EngineState.mapActive_active]
    exact congrArg (Option.map _) ha
  · exact LineStage.away_of_inAccess hst

theorem State.HostAndBootLegal.serveEngine {s : State} (h : s.HostAndBootLegal) (n : Nat) :
    (State.serveEngine n s).HostAndBootLegal := by
  induction n generalizing s with
  | zero => exact h
  | succ n ih =>
    unfold State.serveEngine
    split
    · rename_i a ha
      split
      · rename_i d hd
        have hs : s.txe.engine.AwayFromBoot :=
          EngineState.awayFromBoot_of_active ha (by rw [hd]; exact ⟨nofun, nofun⟩)
        dsimp only
        split
        · exact h.startLine ha hs _ rfl
        split
        · exact ih (h.completeLine hs .skipped)
        · exact h.startLine ha hs _ rfl
      · exact h
    · exact h

/-- The host's next access, the buffer being empty, is that of a cycle that waits for the port alone. -/
theorem State.HostLegal.startHost {s : State} (h : s.HostLegal) {c : HostCycle} (hc : s.hbi.cycle = some c)
    (hb : s.hbi.buffer = []) (hw : s.wants .hostPath = true) (w : WorkAccess) :
    ((s.startAccess w).restage .workAccess).HostLegal := by
  obtain ⟨hnote, htimer, hrequest, hread, hfits⟩ := (State.hostLegal_iff_held hc).mp h
  have hstage : c.stage = .awaitWork ∨ c.stage = .workAccess := by
    have hwants : c.stage = .awaitDrain ∨ c.stage = .awaitWork ∨ c.stage = .workAccess := by
      simpa [State.wants, Hbi.wantsWork, hb, hc, or_assoc] using hw
    rcases hwants with hs | hs | hs
    · simp [HostCycle.Fits, hs, hb] at hfits
    · exact .inl hs
    · exact .inr hs
  refine (State.hostLegal_iff_held (c := { c with stage := .workAccess }) ?_).mpr ⟨hnote, ?_, ?_, ?_, hb⟩
  · exact congrArg (Option.map fun c => { c with stage := .workAccess }) hc
  · exact iff_of_false nofun fun hwaits => nomatch hwaits.2
  · rcases hstage with hs | hs <;> simpa [hs] using hrequest
  · rcases hstage with hs | hs <;> simpa [hs] using hread

theorem State.HostAndBootLegal.settle {s : State} (h : s.HostAndBootLegal) : s.settle.HostAndBootLegal := by
  refine State.settle_keeps State.HostAndBootLegal (fun _ _ hu => hu) (fun u r hu hw => ?_) s h
  cases r with
  | hostPath =>
    show u.serveHost.HostAndBootLegal
    unfold State.serveHost
    split
    · exact hu
    · rename_i hb
      split
      · rename_i c hc
        exact ⟨hu.1.startHost hc hb hw _, hu.2⟩
      · exact hu
  | engine => exact hu.serveEngine _
  | aux => exact hu

/-! ### The Boot Store port passes on -/

/-- With no read of the engine's in progress, the line in progress waits for its turn at the Boot Store, its request
held, or is away from it. -/
theorem State.BootPortLegal.waits_or_away {s : State} (h : s.BootPortLegal) (hd : s.bsc.NoEngineRead) :
    (∃ a, s.txe.engine.active = some a ∧ a.stage = .awaitBoot) ∨ s.txe.engine.AwayFromBoot := by
  cases ha : s.txe.engine.active with
  | none => exact .inr (EngineState.awayFromBoot_of_inactive ha)
  | some a =>
    by_cases hwait : a.stage = .awaitBoot
    · exact .inl ⟨a, rfl, hwait⟩
    · refine .inr (EngineState.awayFromBoot_of_active ha ⟨hwait, fun hread => ?_⟩)
      obtain ⟨-, x, hx, hu, hnot, -⟩ := (State.bootPortLegal_iff_bootRead ha hread).mp h
      rw [(hd x hx).mpr hu] at hnot
      cases hnot

/-- Another access that is not the engine's takes the place of one. -/
theorem State.BootPortLegal.of_noEngineRead {s t : State} (h : s.BootPortLegal) (hd : s.bsc.NoEngineRead)
    (he : t.txe.engine = s.txe.engine) (hq : t.bsc.engineRequest = s.bsc.engineRequest) (ha : t.bsc.accessor ≠ none)
    (hd' : t.bsc.NoEngineRead) : t.BootPortLegal := by
  rcases h.waits_or_away hd with ⟨a, hactive, hwait⟩ | haway
  · obtain ⟨-, hrequest, -⟩ := (State.bootPortLegal_iff_awaitBoot hactive hwait).mp h
    exact (State.bootPortLegal_iff_awaitBoot (by rw [he, hactive]) hwait).mpr ⟨ha, hq.trans hrequest, hd'⟩
  · obtain ⟨-, hrequest, -⟩ := (State.bootPortLegal_iff_away haway).mp h
    exact (State.bootPortLegal_iff_away (by rwa [he])).mpr ⟨fun hnone => absurd hnone ha, hq.trans hrequest, hd'⟩

/-- The host's read starts for the cycle that waited for it (R42). -/
theorem State.HostLegal.startBoot {s : State} (h : s.HostLegal) {off : Offset} (hq : s.bsc.hostRequest = some off) :
    ({ s with bsc := s.bsc.startHost off }.restage .bootAccess).HostLegal := by
  cases hc : s.hbi.cycle with
  | none =>
    obtain ⟨-, hnone, -⟩ := (State.hostLegal_iff_free hc).mp h
    rw [hq] at hnone
    cases hnone
  | some c =>
    obtain ⟨hnote, -, hrequest, -, hfits⟩ := (State.hostLegal_iff_held hc).mp h
    have hstage : c.stage = .awaitBoot := hrequest.mp (by simp [hq])
    have hdir : c.dir = .read := by simpa [HostCycle.Fits, hstage] using hfits
    refine (State.hostLegal_iff_held (c := { c with stage := .bootAccess }) ?_).mpr
      ⟨hnote, iff_of_false nofun (fun hwaits => nomatch hwaits.2), iff_of_false (fun hn => hn rfl) nofun,
        iff_of_true ⟨_, rfl, rfl⟩ rfl, hdir⟩
    exact congrArg (Option.map fun c => { c with stage := .bootAccess }) hc

/-- A dropped engine read completes: the port passes to the host first, then to the engine (R84, R113). -/
theorem State.HostAndBootLegal.bootNext {s : State} (h : s.HostAndBootLegal) {b : BootAccess}
    (hb : s.bsc.accessor = some b) (hu : b.user = .engine) (hd : b.dropped = true) :
    s.bootNext.HostAndBootLegal := by
  obtain ⟨hhost, hboot⟩ := h
  have hdropped : s.bsc.NoEngineRead := by
    intro x hx
    obtain rfl : b = x := Option.some.inj (hb.symm.trans hx)
    exact iff_of_true hd hu
  have hnohost : ¬ s.bsc.ReadsForHost := Bsc.not_readsForHost hb hu
  have hcases := hboot.waits_or_away hdropped
  unfold State.bootNext
  split
  · rename_i off hrequest
    refine ⟨hhost.startBoot hrequest, hboot.of_noEngineRead hdropped rfl rfl nofun fun x hx => ?_⟩
    cases hx
    exact iff_of_false nofun nofun
  · rename_i hnone
    split
    · rename_i off hrequest
      refine ⟨hhost.of_reads rfl rfl (iff_of_false (Bsc.not_readsForHost rfl rfl) hnohost), ?_⟩
      rcases hcases with ⟨a, hactive, hwait⟩ | haway
      · obtain ⟨-, hoff, -⟩ := (State.bootPortLegal_iff_awaitBoot hactive hwait).mp hboot
        refine (State.bootPortLegal_iff_bootRead (a := { a with stage := .bootRead }) ?_ rfl).mpr
          ⟨rfl, _, rfl, rfl, rfl, Option.some.inj (hrequest.symm.trans hoff)⟩
        rw [State.setStage_txe, EngineState.mapActive_active]
        exact congrArg (Option.map _) hactive
      · obtain ⟨-, hno, -⟩ := (State.bootPortLegal_iff_away haway).mp hboot
        rw [hrequest] at hno
        cases hno
    · rename_i hrequest
      refine ⟨hhost.of_reads rfl rfl (iff_of_false (Bsc.not_readsForHost_of_free rfl) hnohost), ?_⟩
      rcases hcases with ⟨a, hactive, hwait⟩ | haway
      · obtain ⟨-, hoff, -⟩ := (State.bootPortLegal_iff_awaitBoot hactive hwait).mp hboot
        rw [hrequest] at hoff
        cases hoff
      · refine (State.bootPortLegal_iff_away ?_).mpr ⟨fun _ => hnone, hrequest, fun _ hx => nomatch hx⟩
        exact haway

/-- The state whose Boot Store access belongs to no one any more. -/
def State.bootDropped (s : State) : State :=
  { s with bsc := { s.bsc with accessor := s.bsc.accessor.map fun b => { b with user := .engine, dropped := true } } }

/-- What the port does next does not depend on whose the completed access was. -/
theorem State.bootNext_bootDropped (s : State) : s.bootDropped.bootNext = s.bootNext := by
  unfold State.bootNext
  have hhost : s.bootDropped.bsc.hostRequest = s.bsc.hostRequest := rfl
  have hengine : s.bootDropped.bsc.engineRequest = s.bsc.engineRequest := rfl
  rw [hhost, hengine]
  split
  · rfl
  · split
    all_goals rfl

/-- An access that completes is no one's; the port passes on legally where the rest is legal without it. -/
theorem State.HostAndBootLegal.bootNext_of_dropped {s : State} (h : s.bootDropped.HostAndBootLegal) {b : BootAccess}
    (hb : s.bsc.accessor = some b) : s.bootNext.HostAndBootLegal := by
  rw [← State.bootNext_bootDropped]
  exact h.bootNext (congrArg (Option.map _) hb) rfl rfl

/-! ### Reports and ends of cycles -/

theorem State.HostAndBootLegal.reported {s v : State} (h : s.HostAndBootLegal) (hv : s.Reported v) :
    v.HostAndBootLegal := by
  rcases hv with e | ⟨f, e⟩
  · exact State.hostAndBootLegal_of_desk e h
  · exact State.hostAndBootLegal_of_desk (s := s.handFault f) e h

theorem State.Reported.endCycle {s v : State} (h : s.Reported v) (a : HostAnswer) :
    (s.endCycle a).Reported (v.endCycle a) :=
  h.imp (congrArg fun d : Desk => { d with cycle := none, timerRunning := false })
    fun ⟨f, e⟩ => ⟨f, congrArg (fun d : Desk => { d with cycle := none, timerRunning := false }) e⟩

/-- The host's Boot Store request is withdrawn (R51). -/
def State.withdrawBoot (s : State) : State := { s with bsc := { s.bsc with hostRequest := none } }

theorem State.Reported.withdrawBoot {s v : State} (h : s.Reported v) : s.withdrawBoot.Reported v.withdrawBoot :=
  h.imp (congrArg fun d : Desk => { d with hostRequest := none })
    fun ⟨f, e⟩ => ⟨f, congrArg (fun d : Desk => { d with hostRequest := none }) e⟩

/-- A cycle that neither asks for the Boot Store nor has its access there ends. -/
theorem State.HostAndBootLegal.endCycle {s : State} (h : s.BootPortLegal) (hq : s.bsc.hostRequest = none)
    (hr : ¬ s.bsc.ReadsForHost) (a : HostAnswer) : (s.endCycle a).HostAndBootLegal :=
  ⟨(State.hostLegal_iff_free rfl).mpr ⟨rfl, hq, hr⟩, h⟩

/-- A cycle in another state than AWAIT_BOOT and BOOT_ACCESS has nothing to do with the Boot Store. -/
theorem State.HostLegal.away_from_boot {s : State} (h : s.HostLegal) {c : HostCycle} (hc : s.hbi.cycle = some c)
    (hwait : c.stage ≠ .awaitBoot) (hread : c.stage ≠ .bootAccess) :
    s.bsc.hostRequest = none ∧ ¬ s.bsc.ReadsForHost := by
  obtain ⟨-, -, hrequest, hreads, -⟩ := (State.hostLegal_iff_held hc).mp h
  exact ⟨by simpa [hwait] using hrequest, fun hr => hread (hreads.mp hr)⟩

/-- With a host access on the Work Store port the cycle is in that access. -/
theorem State.AccessLegal.workAccess {s : State} (h : s.AccessLegal) (ha : s.HostAccess) :
    ∃ c, s.hbi.cycle = some c ∧ c.stage = .workAccess := by
  obtain ⟨hmade, -⟩ := h
  rcases ha with ⟨check, ha⟩ | ha
  · rw [ha] at hmade
    obtain ⟨c, hc, hs, -⟩ := hmade
    exact ⟨c, hc, hs⟩
  · rw [ha] at hmade
    obtain ⟨c, hc, hs, -⟩ := hmade
    exact ⟨c, hc, hs⟩

/-- With a line access on the Work Store port, its job kept, the line is away from the Boot Store. -/
theorem State.AccessLegal.lineAway {s : State} (h : s.AccessLegal) (ha : s.LineAccess) :
    s.txe.engine.AwayFromBoot := by
  have haway {a : ActiveJob} {w : WorkAccess} (hactive : a ∈ s.txe.engine.active) (hin : a.stage.isIn w = true) :
      s.txe.engine.AwayFromBoot := by
    refine EngineState.awayFromBoot_of_active hactive ⟨fun hs => ?_, fun hs => ?_⟩
    all_goals
      rw [hs] at hin
      cases hin
  obtain ⟨hmade, -⟩ := h
  rcases ha with ⟨off, d, m, ha⟩ | ⟨off, check, ha⟩
  · rw [ha] at hmade
    obtain ⟨a, hactive, hin, -⟩ := hmade rfl
    exact haway hactive hin
  · rw [ha] at hmade
    obtain ⟨a, hactive, hin, -⟩ := hmade rfl
    exact haway hactive hin

/-! ### Arrivals -/

/-- A cycle that arrives on a free bus waits, with the timer running under a limit. -/
theorem State.HostAndBootLegal.hold {s : State} (h : s.HostAndBootLegal) (hf : s.busFree = true) {c : HostCycle}
    (hw : c.stage.waits = true) (hb : c.stage ≠ .awaitBoot) (hfits : c.Fits s.hbi.buffer) :
    (s.hold c).HostAndBootLegal := by
  obtain ⟨hcycle, hnote⟩ := s.busFree_iff.mp hf
  obtain ⟨-, hrequest, hreads⟩ := (State.hostLegal_iff_free hcycle).mp h.1
  refine ⟨(State.hostLegal_iff_held (c := c) rfl).mpr ⟨hnote, ?_, ?_, ?_, hfits⟩, h.2⟩
  · simp [hw]
  · exact iff_of_false (fun hn => hn hrequest) hb
  · refine iff_of_false hreads fun hs => ?_
    rw [hs] at hw
    cases hw

/-- A Boot Store read that arrives starts its access or asks for it (R42). -/
theorem State.HostAndBootLegal.arriveBootRead {s : State} (h : s.HostAndBootLegal) (hf : s.busFree = true)
    (c : MemoryCycle) (off : Offset) (b : Fin 64) (hd : c.dir = .read) :
    (s.arriveBootRead c off b).HostAndBootLegal := by
  obtain ⟨hhost, hboot⟩ := h
  obtain ⟨hcycle, hnote⟩ := s.busFree_iff.mp hf
  obtain ⟨-, hrequest, hreads⟩ := (State.hostLegal_iff_free hcycle).mp hhost
  unfold State.arriveBootRead
  split
  · rename_i hfree
    rw [Option.isNone_iff_eq_none] at hfree
    have hnone : s.bsc.NoEngineRead := fun x hx => by rw [hfree] at hx; cases hx
    refine ⟨(State.hostLegal_iff_held (c := heldCycle c off b none .bootAccess) rfl).mpr
      ⟨hnote, iff_of_false nofun (fun hwaits => nomatch hwaits.2), iff_of_false (fun hn => hn rfl) nofun,
        iff_of_true ⟨_, rfl, rfl⟩ rfl, hd⟩, hboot.of_noEngineRead hnone rfl rfl nofun fun x hx => ?_⟩
    cases hx
    exact iff_of_false nofun nofun
  · rename_i hbusy
    rw [Option.isNone_iff_eq_none] at hbusy
    refine ⟨(State.hostLegal_iff_held (c := heldCycle c off b none .awaitBoot) rfl).mpr
      ⟨hnote, by simp [heldCycle, HostStage.waits, HostStage.awaited], iff_of_true nofun rfl,
        iff_of_false hreads nofun, hd⟩,
      fun hn => absurd hn hbusy, hboot.2⟩

/-! ### The drain -/

/-- The cycle in progress may see another buffer that it fits. -/
theorem State.HostLegal.withBuffer {s : State} (h : s.HostLegal) (buffer : List PostEntry)
    (hfits : ∀ c ∈ s.hbi.cycle, c.Fits buffer) : State.HostLegal { s with hbi := { s.hbi with buffer := buffer } } := by
  obtain ⟨hnote, htimer, hrequest, hreads, -⟩ := h
  exact ⟨hnote, htimer, hrequest, hreads, hfits⟩

/-- What a drain does for the waiting cycle is about the desk alone. -/
theorem State.afterDrain_desk {u v : State} (e : v.desk = u.desk) : v.afterDrain.desk = u.afterDrain.desk := by
  have hcycle : v.hbi.cycle = u.hbi.cycle := congrArg Desk.cycle e
  have hbuffer : v.hbi.buffer = u.hbi.buffer := congrArg Desk.buffer e
  unfold State.afterDrain
  rw [hcycle, hbuffer]
  split
  · rename_i c hc
    split
    · exact congrArg
        (fun d : Desk => { d with buffer := d.buffer ++ [c.entry], cycle := none, timerRunning := false }) e
    · split
      · exact congrArg
          (fun d : Desk => { d with cycle := d.cycle.map fun c : HostCycle => { c with stage := .awaitWork } }) e
      · exact e
    · exact e
  · exact e

/-- The oldest entry leaves: a write that waited for its slot is posted, a cycle that waited for the last entry goes
on, and every other cycle stays as it was (R43, R46). -/
theorem State.HostAndBootLegal.afterDrain {s : State} (h : s.HostAndBootLegal) {e : PostEntry} {rest : List PostEntry}
    (hb : s.hbi.buffer = e :: rest) :
    (State.afterDrain { s with hbi := { s.hbi with buffer := rest } }).HostAndBootLegal := by
  obtain ⟨hhost, hboot⟩ := h
  unfold State.afterDrain
  split
  · rename_i c hc
    have hheld : s.hbi.cycle = some c := hc
    obtain ⟨hnote, htimer, hrequest, hreads, hfits⟩ := (State.hostLegal_iff_held hheld).mp hhost
    have hstay (hfits' : c.Fits rest) :
        State.HostAndBootLegal { s with hbi := { s.hbi with buffer := rest } } := by
      refine ⟨hhost.withBuffer rest fun d hd => ?_, hboot⟩
      obtain rfl : c = d := Option.some.inj (hheld.symm.trans hd)
      exact hfits'
    split
    · rename_i hs
      obtain ⟨hq, hr⟩ := hhost.away_from_boot hheld (by simp [hs]) (by simp [hs])
      exact ⟨(State.hostLegal_iff_free rfl).mpr ⟨rfl, hq, hr⟩, hboot⟩
    · rename_i hs
      split
      · rename_i hempty
        refine ⟨(State.hostLegal_iff_held (c := { c with stage := .awaitWork }) ?_).mpr ⟨hnote, ?_, ?_, ?_, ?_⟩, hboot⟩
        · exact congrArg (Option.map fun c => { c with stage := .awaitWork }) hheld
        · rw [hs] at htimer
          exact htimer
        · rw [hs] at hrequest
          exact ⟨fun hn => (nomatch hrequest.mp hn), nofun⟩
        · rw [hs] at hreads
          exact ⟨fun hr => (nomatch hreads.mp hr), nofun⟩
        · exact List.isEmpty_iff.mp hempty
      · rename_i hmore
        refine hstay ?_
        unfold HostCycle.Fits
        rw [hs]
        exact fun hnil => hmore (by rw [hnil]; rfl)
    · rename_i hslot hdrain
      refine hstay ?_
      unfold HostCycle.Fits at hfits ⊢
      cases hs : c.stage with
      | awaitBoot | bootAccess => simpa only [hs] using hfits
      | awaitWork | workAccess => simp [hs, hb] at hfits
      | awaitSlot => exact absurd hs hslot
      | awaitDrain => exact absurd hs hdrain
  · rename_i hc
    exact ⟨hhost.withBuffer rest fun c hc' => absurd (hc.symm.trans hc') nofun, hboot⟩

/-! ### The engine's commands -/

/-- The Boot Store port stays legal where it and the active job stay. -/
theorem State.BootPortLegal.of_active {s t : State} (h : s.BootPortLegal)
    (he : t.txe.engine.active = s.txe.engine.active) (hb : t.bsc = s.bsc) : t.BootPortLegal := by
  unfold State.BootPortLegal at h ⊢
  rw [he, hb]
  exact h

theorem State.HostAndBootLegal.offer {s : State} (h : s.HostAndBootLegal) (hn : s.txe.engine.active = none)
    (r : CompletionRecord) : (s.offer r).HostAndBootLegal := by
  unfold State.offer
  split
  all_goals exact ⟨h.1, h.2.of_active hn.symm rfl⟩

/-- A dropped access keeps its requester (R84). -/
theorem BootAccess.drop_user (b : BootAccess) : b.drop.user = b.user := by
  unfold BootAccess.drop
  split
  all_goals rfl

/-- The engine's reset leaves the host what it has at the Boot Store, and the engine nothing (R83, R84). -/
theorem State.HostAndBootLegal.engineReset {s : State} (h : s.HostAndBootLegal) :
    State.HostAndBootLegal { s with
      txe := defaultTxe
      bsc := { s.bsc with accessor := s.bsc.accessor.map BootAccess.drop, engineRequest := none } } := by
  obtain ⟨hhost, hfree, hkept, -⟩ := h
  refine ⟨hhost.of_reads rfl rfl ?_,
    (State.bootPortLegal_iff_away (EngineState.awayFromBoot_of_inactive rfl)).mpr ⟨fun hn => ?_, rfl, ?_⟩⟩
  · unfold Bsc.ReadsForHost
    simp [BootAccess.drop_user]
  · exact (hfree (Option.map_eq_none_iff.mp hn)).1
  · intro x hx
    obtain ⟨y, hy, rfl⟩ := Option.map_eq_some_iff.mp hx
    rw [BootAccess.drop_user]
    unfold BootAccess.drop
    cases hu : y.user with
    | engine => exact iff_of_true rfl rfl
    | hostPath => exact iff_of_false (by simp [hkept y hy hu]) nofun

/-! ### Every event -/

/-- A host's read completes: it was the host's own, so the cycle asks for nothing more (R42). -/
theorem State.HostAndBootLegal.hostBoot {s : State} (h : s.HostAndBootLegal) {b : BootAccess} {c : HostCycle}
    (hb : s.bsc.accessor = some b) (hu : b.user = .hostPath) (hc : s.hbi.cycle = some c) (a : HostAnswer) :
    (s.endCycle a).bootNext.HostAndBootLegal := by
  obtain ⟨hhost, hboot⟩ := h
  obtain ⟨-, -, hrequest, hreads, -⟩ := (State.hostLegal_iff_held hc).mp hhost
  have hstage : c.stage = .bootAccess := hreads.mp ⟨b, hb, hu⟩
  have hq : s.bsc.hostRequest = none := by simpa [hstage] using hrequest
  have haccessor : (s.endCycle a).bootDropped.bsc.accessor = some { b with user := .engine, dropped := true } :=
    congrArg (Option.map _) hb
  have hkept : s.bsc.NoEngineRead := by
    intro x hx
    obtain rfl : b = x := Option.some.inj (hb.symm.trans hx)
    simp [hu, hboot.2.1 b hb hu]
  refine State.HostAndBootLegal.bootNext_of_dropped
    ⟨(State.hostLegal_iff_free rfl).mpr ⟨rfl, hq, Bsc.not_readsForHost haccessor rfl⟩,
      hboot.of_noEngineRead hkept rfl rfl (by simp [haccessor]) fun x hx => ?_⟩ (b := b) hb
  obtain rfl := Option.some.inj (haccessor.symm.trans hx)
  exact iff_of_true rfl rfl

/-- The engine's read completes and its line waits for the Work Store (R67). -/
theorem State.HostAndBootLegal.engineBoot {s : State} (h : s.HostAndBootLegal) {b : BootAccess}
    (hb : s.bsc.accessor = some b) (hu : b.user = .engine) (hd : b.dropped = false) (d : Line) :
    (s.setStage (.awaitWork d)).bootNext.HostAndBootLegal := by
  obtain ⟨hhost, hboot⟩ := h
  obtain ⟨-, -, -, hreading, -⟩ := id hboot
  obtain ⟨a, hactive, hstage⟩ := hreading.mp ⟨b, hb, hu, hd⟩
  obtain ⟨hrequest, -⟩ := (State.bootPortLegal_iff_bootRead hactive hstage).mp hboot
  have haccessor : (s.setStage (.awaitWork d)).bootDropped.bsc.accessor
      = some { b with user := .engine, dropped := true } := congrArg (Option.map _) hb
  have hreads : (s.setStage (.awaitWork d)).bootDropped.bsc.ReadsForHost ↔ s.bsc.ReadsForHost :=
    iff_of_false (Bsc.not_readsForHost haccessor rfl) (Bsc.not_readsForHost hb hu)
  have haway : (s.setStage (.awaitWork d)).bootDropped.txe.engine.AwayFromBoot := by
    refine EngineState.awayFromBoot_of_active (a := { a with stage := .awaitWork d }) ?_ ⟨nofun, nofun⟩
    exact (EngineState.mapActive_active _ _).trans (congrArg (Option.map _) hactive)
  refine State.HostAndBootLegal.bootNext_of_dropped
    ⟨hhost.of_reads rfl rfl hreads, (State.bootPortLegal_iff_away haway).mpr
      ⟨fun hn => by simp [haccessor] at hn, hrequest, fun x hx => ?_⟩⟩ (b := b) hb
  obtain rfl := Option.some.inj (haccessor.symm.trans hx)
  exact iff_of_true rfl rfl

theorem State.Reported.engine {s v : State} (h : s.Reported v) : v.txe.engine = s.txe.engine := by
  rcases h with e | ⟨f, e⟩
  all_goals exact congrArg Desk.engine e

/-- Every event in a consistent state keeps the host cycle and the Boot Store port legal. -/
theorem State.Consistent.event {s t : State} (hs : s.Consistent) (e : s.Event t) : t.HostAndBootLegal := by
  obtain ⟨hqueues, -, hhost, hboot, haccess, -⟩ := hs
  have h : s.HostAndBootLegal := ⟨hhost, hboot⟩
  have hfree (hc : s.hbi.cycle = none) := (State.hostLegal_iff_free hc).mp hhost
  cases e with
  | plain _ hv => exact h.reported hv
  | mask | submit | flush | popFault | clearOverflow | popCompletion => exact h
  | waitLimit b hc => exact ⟨hhost.of_free hc hc rfl rfl, hboot⟩
  | note x hc => exact ⟨hhost.of_free hc hc rfl rfl, hboot⟩
  | ended v a hv hc =>
    have haway : s.bsc.hostRequest = none ∧ ¬ s.bsc.ReadsForHost := by
      rcases hc with hc | ha
      · exact (hfree hc).2
      · obtain ⟨c, hc, hstage⟩ := haccess.workAccess ha
        exact hhost.away_from_boot hc (by simp [hstage]) (by simp [hstage])
    exact State.HostAndBootLegal.reported (.endCycle hboot haway.1 haway.2 a) (hv.endCycle a)
  | bootArrive c off b hf hd => exact h.arriveBootRead hf c off b hd
  | workArrive c off b ov hf =>
    by_cases hb : s.hbi.buffer.isEmpty = true
    · rw [if_pos hb]
      exact h.hold hf rfl nofun (List.isEmpty_iff.mp hb)
    · rw [if_neg hb]
      exact h.hold hf rfl nofun fun hn => hb (by rw [hn]; rfl)
  | slotArrive c off b ov hf hd hlen => exact h.hold hf rfl nofun ⟨hd, Nat.le_antisymm hqueues.1 hlen⟩
  | post x a hf hroom =>
    obtain ⟨-, hq, hr⟩ := hfree (s.busFree_iff.mp hf).1
    exact State.HostAndBootLegal.endCycle (s := s.post x) (hboot.of_active rfl rfl) hq hr a
  | timeout v c w a hv hc hw =>
    obtain ⟨-, -, -, hreads, -⟩ := (State.hostLegal_iff_held hc).mp hhost
    have hnot : ¬ s.bsc.ReadsForHost := fun hr => by simp [hreads.mp hr, HostStage.awaited] at hw
    have hboot' : s.withdrawBoot.BootPortLegal := ⟨fun hn => ⟨rfl, (hboot.1 hn).2⟩, hboot.2⟩
    exact State.HostAndBootLegal.reported (.endCycle hboot' rfl hnot a) (hv.withdrawBoot.endCycle a)
  | hostBoot b c a hb hu hc => exact h.hostBoot hb hu hc a
  | drain x rest v hb hv =>
    exact State.hostAndBootLegal_of_desk (State.afterDrain_desk hv) (h.afterDrain hb)
  | refuseJob j rest r hidle hq =>
    have hpop : State.HostAndBootLegal { s with txe := { s.txe with queue := rest } } := h
    exact hpop.offer (by rw [hidle]; rfl) r
  | activate j rest hidle hq =>
    have hnone : s.txe.engine.active = none := by rw [hidle]; rfl
    unfold State.activated
    refine State.HostAndBootLegal.beginLine ?_ ?_ _
    · exact h
    · exact EngineState.awayFromBoot_of_inactive hnone
  | engineBoot b d hb hu hd => exact h.engineBoot hb hu hd d
  | droppedBoot b hb hu hd => exact h.bootNext hb hu hd
  | line v r hv ha =>
    exact (h.reported hv).completeLine (by rw [hv.engine]; exact haccess.lineAway ha) r
  | abort a he => exact ⟨hhost, hboot.of_active (by rw [he]; rfl) rfl⟩
  | popRetiring r q rest hc he => exact ⟨hhost, hboot.of_active (by rw [he]; rfl) rfl⟩
  | engineReset => exact h.engineReset
  | resetAssert | resetRelease =>
    exact ⟨(State.hostLegal_iff_free rfl).mpr ⟨rfl, rfl, Bsc.not_readsForHost_of_free rfl⟩,
      (State.bootPortLegal_iff_away (EngineState.awayFromBoot_of_inactive rfl)).mpr
        ⟨fun _ => rfl, rfl, fun _ hx => nomatch hx⟩⟩

/-- Settles O11: every event keeps both legal, and so does the settling of the Work Store port after it. -/
theorem stepKeepsHostAndBootPortLegal : Obligations.StepKeepsHostAndBootPortLegal :=
  fun _ _ hs h => step_keeps_desk (P := State.Consistent) (Q := State.HostAndBootLegal)
    (fun _ _ => State.hostAndBootLegal_of_desk) (fun _ _ => State.Consistent.event)
    (fun _ => State.HostAndBootLegal.settle) (fun _ _ hu => hu) hs h

end Sys2Proof.Machine
end

section
/-! PROOF. Host cycles at their arrival, and those the part leaves to others (O21, O37, O39, O40). -/

namespace Sys2Proof.Machine

/-! ### Cycles left to others and reads of the two ports -/

/-- A read that reaches a port is answered in its arrival event (R160). -/
theorem exec_unclaimedIoCycle_read (c : IoCycle) (s : State) (hl : c.lanes ≠ 0#4) (hb : s.busFree = true)
    (hr : s.inReset = false) (hc : s.claimsIo c = true) :
    exec (.unclaimedIoCycle .read c) s
      = ((s.arrive .io (wordAddr c.ha) .read true).answer (.readyData (s.portRead c))).done := by
  show execUnclaimedIoCycle .read c s = _
  unfold execUnclaimedIoCycle
  rw [if_neg hl, if_neg (by simp [hb]), if_neg (by simp [hr]), if_pos hc]

/-- A lane of an answer: the byte where it is carried, no value elsewhere (log entry 11). -/
theorem laneData_getElem (lanes : Lanes) (f : Nat → Byte) (k : Fin 4) :
    (laneData lanes f)[k] = if carries lanes k then some (f k) else none :=
  Vector.getElem_ofFn _

/-- Settles O21: a cycle that reaches no port is noted, a read of a port is answered at once, and each of its lanes is
decided by its place. -/
theorem ioCyclesEndOrPassWithoutEffect : Obligations.IoCyclesEndOrPassWithoutEffect := by
  intro s c hb hl hr
  refine ⟨fun dir hc => ?passed, fun hc => ?answered, fun k => ?lane⟩
  case passed => exact exec_unclaimedIoCycle_passed dir c s hl hb hr hc
  case answered => exact exec_unclaimedIoCycle_read c s hl hb hr hc
  case lane =>
    rw [State.portRead, laneData_getElem]
    cases carries c.lanes k with
    | false => rfl
    | true =>
      simp only [if_true, Bool.true_eq_false, if_false]
      split
      · rfl
      · split
        all_goals rfl

/-! ### The select decision -/

/-- The level of a line for a cycle, where its record fires and where it does not (R154). -/
theorem Sdc.cycleLevels_getLsbD (d : Sdc) (space : Space) (addr : HostAddr) (dir : Direction) (claimed : Bool)
    (k : Fin 4) :
    (d.cycleLevels space addr dir claimed).getLsbD k.val
      = if d.records[k].fires space addr dir claimed then decide (d.records[k].polarity = .activeHigh)
        else decide (d.records[k].polarity = .activeLow) := by
  rw [Sdc.cycleLevels, lines4_getLsbD, SelectRecord.level, SelectRecord.inactiveLevel]
  cases d.records[k].polarity <;> rfl

theorem Sdc.idleLevels_getLsbD (d : Sdc) (k : Fin 4) :
    d.idleLevels.getLsbD k.val = decide (d.records[k].polarity = .activeLow) :=
  lines4_getLsbD _ k

/-- A host memory cycle that arrives during reset is noted and left to others (R39, R155). -/
theorem exec_hostMemoryCycleArrival_reset (c : MemoryCycle) (s : State) (hl : c.lanes ≠ 0#4) (hb : s.busFree = true)
    (hr : s.inReset = true) :
    exec (.hostMemoryCycleArrival c) s
      = State.done { s with hbi := { s.hbi with unclaimed := true }, pins := { s.pins with answer := none } } := by
  show execHostMemoryCycleArrival c s = _
  unfold execHostMemoryCycleArrival
  rw [if_neg hl, if_neg (by simp [hb]), if_pos hr]

/-- So is an I/O cycle. -/
theorem exec_unclaimedIoCycle_reset (dir : Direction) (c : IoCycle) (s : State) (hl : c.lanes ≠ 0#4)
    (hb : s.busFree = true) (hr : s.inReset = true) :
    exec (.unclaimedIoCycle dir c) s
      = State.done { s with hbi := { s.hbi with unclaimed := true }, pins := { s.pins with answer := none } } := by
  show execUnclaimedIoCycle dir c s = _
  unfold execUnclaimedIoCycle
  rw [if_neg hl, if_neg (by simp [hb]), if_pos hr]

/-- Settles O37: the conditions of R152 decide each line, and a cycle that is not claimed is noted only. -/
theorem unclaimedCyclesPassAndSelectsAreDecided : Obligations.UnclaimedCyclesPassAndSelectsAreDecided := by
  refine ⟨fun d space addr dir claimed k => ?selects, fun s => rfl, fun s c hb hl hr hroute => ?arrival,
    fun s hc => ?ending, fun s c hb hl hr => exec_hostMemoryCycleArrival_reset c s hl hb hr,
    fun s dir c hb hl hr => exec_unclaimedIoCycle_reset dir c s hl hb hr⟩
  case selects =>
    intro r fires
    have hfires : r.fires space addr dir claimed = true ↔ fires := r.fires_iff space addr dir claimed
    rw [d.cycleLevels_getLsbD]
    exact ⟨fun h => if_pos (hfires.mpr h), fun h => if_neg (hfires.not.mpr h), d.idleLevels_getLsbD k⟩
  case arrival =>
    rw [exec_hostMemoryCycleArrival c s hl hb hr, hroute]
    rfl
  case ending =>
    show execUnclaimedCycleEnd s = _
    exact if_neg (by simp [hc])

/-! ### Claimed cycles that wait or start -/

/-- A claimed host memory cycle proceeds by its route, with the select lines decided as claimed. -/
theorem exec_hostMemoryCycleArrival_claimed (c : MemoryCycle) (s : State) (r : Route) (hl : c.lanes ≠ 0#4)
    (hb : s.busFree = true) (hr : s.inReset = false) (hroute : s.rtu.resolve (wordAddr c.ha) c.dir = r)
    (hc : r ≠ .notClaimed) :
    exec (.hostMemoryCycleArrival c) s = ((s.arrive .memory (wordAddr c.ha) c.dir true).arriveRoute c r).done := by
  rw [exec_hostMemoryCycleArrival c s hl hb hr, hroute, decide_eq_true hc]

/-- The host's access of one word, with its duration by Table 6-6. -/
theorem Bsc.startHost_eq (b : Bsc) (off : Offset) :
    b.startHost off = { b with
      accessor := some { user := .hostPath, offset := off, dropped := false
                         durationNs := 50 * (b.accessTime.toNat + 1) }
      hostRequest := none } := by
  rw [Bsc.startHost, bootDuration, Nat.one_mul]

/-- The engine's read of one line of eight words, with its duration by Table 6-6. -/
theorem Bsc.startEngine_eq (b : Bsc) (off : Offset) :
    b.startEngine off = { b with
      accessor := some { user := .engine, offset := off, dropped := false
                         durationNs := 400 * (b.accessTime.toNat + 1) }
      engineRequest := none } := by
  rw [Bsc.startEngine, bootDuration, ← Nat.mul_assoc]

/-- Settles O39: a Boot Store read is held for its access, started or asked for. -/
theorem bootReadArrivalStartsOrWaits : Obligations.BootReadArrivalStartsOrWaits := by
  intro s c off b hb hl hr hroute cyc pins
  have hdir : c.dir = .read := Rtu.resolve_bootRead_read _ _ _ _ _ hroute
  have hcyc (st : HostStage) : heldCycle c off b none st = cyc st := by
    simp [heldCycle, cyc, hdir, wordAddr]
  have hexec : exec (.hostMemoryCycleArrival c) s
      = (State.arriveBootRead c off b (s.arrive .memory (wordAddr c.ha) c.dir true)).done :=
    exec_hostMemoryCycleArrival_claimed c s _ hl hb hr hroute nofun
  rw [hexec]
  unfold State.arriveBootRead
  rw [State.arrive_bsc, hcyc, hcyc, Bsc.startHost_eq]
  refine ⟨fun hfree => ?starts, fun hbusy => ?waits⟩
  case starts =>
    rw [if_pos (by simp [hfree])]
    rfl
  case waits =>
    rw [if_neg (by simp [hbusy])]
    rfl

theorem State.arriveRoute_posted (s : State) (c : MemoryCycle) (off : Offset) (b : Fin 64) (ov : Option (Fin 16))
    (h : s.hbi.postingEnable = true) : s.arriveRoute c (.workWrite off b ov) = s.arrivePosted c off b ov :=
  if_pos h

theorem State.arriveRoute_unposted (s : State) (c : MemoryCycle) (off : Offset) (b : Fin 64) (ov : Option (Fin 16))
    (h : s.hbi.postingEnable = false) : s.arriveRoute c (.workWrite off b ov) = s.arriveWork c off b ov :=
  if_neg (by simp [h])

/-- Settles O40: a write is posted or waits for a slot, and what is not posted waits behind the buffer. -/
theorem workCycleArrivalPostsOrWaits : Obligations.WorkCycleArrivalPostsOrWaits := by
  intro s c off b ov hb hl hr
  refine ⟨carriedData c.lanes c.data, fun k hk => getByte_carriedData c.lanes c.data k hk, ?_⟩
  intro addr entry held waiting behind
  have hexec {r : Route} (hroute : s.rtu.resolve addr c.dir = r) (hc : r ≠ .notClaimed) :
      exec (.hostMemoryCycleArrival c) s = ((s.arrive .memory addr c.dir true).arriveRoute c r).done :=
    exec_hostMemoryCycleArrival_claimed c s r hl hb hr hroute hc
  have hwaits : State.arriveWork c off b ov (s.arrive .memory addr c.dir true) = (waiting behind).settle := by
    have hbehind : (if s.hbi.buffer.isEmpty then HostStage.awaitWork else .awaitDrain) = behind := by
      simp only [behind, List.isEmpty_iff]
    unfold State.arriveWork
    rw [State.arrive_hbi, hbehind]
    rfl
  refine ⟨fun hdir hroute hon hroom => ?posted, fun hroute hon hfull => ?slot, fun hroute hoff => ?unposted,
    fun hroute => ?read⟩
  case posted =>
    have hentry : (heldCycle c off b ov .awaitSlot).entry = entry := by
      simp [heldCycle, HostCycle.entry, hdir, entry]
    rw [hexec hroute nofun, State.arriveRoute_posted (s.arrive .memory addr c.dir true) c off b ov hon]
    unfold State.arrivePosted
    dsimp only
    rw [hentry]
    exact congrArg State.done (if_pos hroom)
  case slot =>
    rw [hexec hroute nofun, State.arriveRoute_posted (s.arrive .memory addr c.dir true) c off b ov hon]
    exact congrArg State.done (if_neg (Nat.not_lt.mpr hfull))
  case unposted =>
    rw [hexec hroute nofun, State.arriveRoute_unposted (s.arrive .memory addr c.dir true) c off b ov hoff,
      hwaits]
    rfl
  case read =>
    rw [hexec hroute nofun]
    exact congrArg State.done hwaits

end Sys2Proof.Machine
end

section
/-! PROOF. Host cycles that end: the timeout, the ends of Boot Store and Work Store accesses, and the drain (O41 to
O45). -/

namespace Sys2Proof.Machine

/-! ### The timeout -/

/-- A waiting cycle times out with its timer running (R51). -/
theorem exec_hostWaitTimeout (s : State) (c : HostCycle) (w : Awaited) (hc : s.hbi.cycle = some c)
    (hw : c.stage.awaited = some w) (ht : s.hbi.timerRunning = true) :
    exec .hostWaitTimeout s
      = (State.endCycle
          { busError := true, data := if c.dir = .read then some (laneData c.lanes fun _ => 0xFF#8) else none }
          (s.handFault { hostFault .hostWaitTimeout c.addr c.dir c.block with
            awaited := some w }).withdrawBoot).settle.done := by
  show execHostWaitTimeout s = _
  unfold execHostWaitTimeout
  simp only [hc, hw]
  exact if_neg (by simp [ht])

/-- Settles O41: each of the four waiting states names what it awaits. -/
theorem hostWaitTimeoutEndsCycle : Obligations.HostWaitTimeoutEndsCycle := by
  intro s c w hc ht hstage lanes
  have hw : c.stage.awaited = some w := by
    simp only [List.mem_cons, Prod.mk.injEq, List.not_mem_nil, or_false] at hstage
    rcases hstage with ⟨hs, rfl⟩ | ⟨hs, rfl⟩ | ⟨hs, rfl⟩ | ⟨hs, rfl⟩
    all_goals
      rw [hs]
      rfl
  rw [exec_hostWaitTimeout s c w hc hw ht]
  rfl

/-! ### Boot Store reads -/

/-- A host's Boot Store read completes (R42). -/
theorem exec_hostBootReadComplete (s : State) (b : BootAccess) (c : HostCycle) (hb : s.bsc.accessor = some b)
    (hu : b.user = .hostPath) (hc : s.hbi.cycle = some c) :
    exec .hostBootReadComplete s
      = (s.endCycle (.readyData (laneData c.lanes fun k =>
          Memory.read s.boot (b.offset.toNat + k)))).bootNext.done := by
  show execHostBootReadComplete s = _
  unfold execHostBootReadComplete
  simp only [hb, hc]
  exact if_pos hu

/-- An engine's Boot Store read completes, its job discarded (R84). -/
theorem exec_engineBootReadComplete_dropped (s : State) (b : BootAccess) (hb : s.bsc.accessor = some b)
    (hu : b.user = .engine) (hd : b.dropped = true) : exec .engineBootReadComplete s = s.bootNext.settle.done := by
  show execEngineBootReadComplete s = _
  unfold execEngineBootReadComplete
  simp only [hb]
  exact (if_pos hu).trans (if_pos hd)

/-- An engine's Boot Store read completes for its line (R67). -/
theorem exec_engineBootReadComplete_kept (s : State) (b : BootAccess) (hb : s.bsc.accessor = some b)
    (hu : b.user = .engine) (hd : b.dropped = false) :
    exec .engineBootReadComplete s
      = (s.setStage (.awaitWork (readLine s.boot b.offset))).bootNext.settle.done := by
  show execEngineBootReadComplete s = _
  unfold execEngineBootReadComplete
  simp only [hb]
  exact (if_pos hu).trans (if_neg (by simp [hd]))

/-- The port passes to a pending host request. -/
theorem State.bootNext_host (s : State) (off : Offset) (c : HostCycle) (hq : s.bsc.hostRequest = some off)
    (hc : s.hbi.cycle = some c) :
    s.bootNext = { s with
      bsc := s.bsc.startHost off
      hbi := { s.hbi with cycle := some { c with stage := .bootAccess }, timerRunning := false } } := by
  unfold State.bootNext
  rw [hq]
  show State.restage .bootAccess _ = _
  unfold State.restage
  rw [hc]
  rfl

/-- The port passes to a pending engine request where the host has none. -/
theorem State.bootNext_engine (s : State) (off : Offset) (hh : s.bsc.hostRequest = none)
    (hq : s.bsc.engineRequest = some off) :
    s.bootNext = { s with bsc := s.bsc.startEngine off }.setStage .bootRead := by
  unfold State.bootNext
  rw [hh, hq]

/-- The port is free where neither asks for it. -/
theorem State.bootNext_free (s : State) (hh : s.bsc.hostRequest = none) (hq : s.bsc.engineRequest = none) :
    s.bootNext = { s with bsc := { s.bsc with accessor := none } } := by
  unfold State.bootNext
  rw [hh, hq]

/-- Settles O42: each completion, and the three ways the port passes on. -/
theorem bootReadsCompleteAndPassPort : Obligations.BootReadsCompleteAndPassPort := by
  refine ⟨fun s b c hb hu hc => exec_hostBootReadComplete s b c hb hu hc,
    fun s b hb hu hd => exec_engineBootReadComplete_dropped s b hb hu hd,
    fun s b a hb hu hd ha => ?kept, fun s b hb => ⟨fun off c hq hc => ?host, fun off a phase hp hh hq he => ?engine,
      fun hh hq => s.bootNext_free hh hq⟩⟩
  case kept =>
    intro line held e
    have hstage : s.setStage (.awaitWork line) = { s with txe := { s.txe with engine := e } } := by
      have hmap : s.txe.engine.mapActive (fun a => { a with stage := .awaitWork line }) = e := by
        cases he : s.txe.engine <;> simp only [e, he, EngineState.mapActive, held]
      unfold State.setStage
      rw [hmap]
    rw [exec_engineBootReadComplete_kept s b hb hu hd]
    show (s.setStage (.awaitWork line)).bootNext.settle.done = _
    rw [hstage]
    rfl
  case host => rw [s.bootNext_host off c hq hc, Bsc.startHost_eq]
  case engine =>
    rw [s.bootNext_engine off hh hq, Bsc.startEngine_eq]
    unfold State.setStage
    dsimp only
    rw [he]
    rcases hp with rfl | rfl
    all_goals rfl

/-! ### Work Store accesses of the host -/

/-- A hit count advances by one and stays at 65535 (R31). -/
theorem advance_hits (n : BitVec 16) : advance n = if n = 65535#16 then 65535#16 else n + 1#16 := by
  have hmax : BitVec.allOnes 16 = 65535#16 := by decide
  unfold advance
  rw [hmax]
  by_cases h : n = 65535#16
  · rw [if_pos h, if_pos h, h]
  · rw [if_neg h, if_neg h]

/-- A hit changes the overlay entries alone (R31). -/
theorem Rtu.hit_eq (r : Rtu) (ov : Option (Fin 16)) :
    r.hit ov = { r with overlays := match ov with
      | some i => r.overlays.set i { r.overlays[i] with
          hits := if r.overlays[i].hits = 65535#16 then 65535#16 else r.overlays[i].hits + 1#16 }
      | none => r.overlays } := by
  cases ov with
  | none => rfl
  | some i => simp only [Rtu.hit, advance_hits]

/-- The carried lanes that disagree with their parity, while the check is on (R53). -/
def State.badLanes (s : State) (c : HostCycle) (check : Bool) : Lanes :=
  if check then s.failingLanes c.offset c.lanes else 0#4

theorem State.badLanes_getLsbD (s : State) (c : HostCycle) (check : Bool) (k : Nat) (hk : k < 4) :
    (s.badLanes c check).getLsbD k = true ↔ check = true ∧ carries c.lanes k = true
      ∧ ¬ OddParity (Memory.read s.work (c.offset.toNat + k)) (ParityBits.read s.workParity (c.offset.toNat + k)) := by
  unfold State.badLanes
  cases check with
  | false => simp
  | true =>
    rw [← parityFails_iff, if_pos rfl, State.failingLanes]
    have hbit := lines4_getLsbD (fun j => carries c.lanes j.val && s.parityFails (c.offset.toNat + j.val)) ⟨k, hk⟩
    simp only at hbit
    rw [hbit]
    simp

/-- A host's Work Store read completes (R43, R53, R54, R31). -/
theorem exec_hostWorkReadComplete (s : State) (c : HostCycle) (check : Bool)
    (ha : s.wsc.access = some (.hostRead check)) (hc : s.hbi.cycle = some c) :
    exec .hostWorkReadComplete s
      = (State.endCycle
          { busError := decide (s.badLanes c check ≠ 0#4) && s.hbi.parityTermination
            data := some (laneData c.lanes fun k => Memory.read s.work (c.offset.toNat + k)) }
          { s.endAccess with
            rtu := s.rtu.hit c.overlay
            rpu := if s.badLanes c check = 0#4 then s.rpu
              else s.rpu.takeFault { hostFault .workParity c.addr .read c.block with
                lanes := some (s.badLanes c check) } }).settle.done := by
  show execHostWorkReadComplete s = _
  unfold execHostWorkReadComplete
  simp only [ha, hc]
  by_cases hbad : s.badLanes c check = 0#4
  · have hbad' := hbad
    unfold State.badLanes at hbad'
    simp only [hbad, hbad', if_true]
    rfl
  · have hbad' := hbad
    unfold State.badLanes at hbad'
    simp only [hbad, hbad', if_false]
    rfl

/-- Settles O43: the lanes reported are those that fail, and the route's overlay entry is hit. -/
theorem hostWorkReadReturnsStoreBytes : Obligations.HostWorkReadReturnsStoreBytes := by
  intro s c check bad ha hc hbits data fault hit
  have hbad : s.badLanes c check = bad := by
    refine BitVec.eq_of_getLsbD_eq fun k hk => ?_
    rw [Bool.eq_iff_iff, s.badLanes_getLsbD c check k hk, hbits k hk]
  rw [exec_hostWorkReadComplete s c check ha hc, hbad, Rtu.hit_eq]
  rfl

/-! ### Writes of the Work Store by the host path -/

/-- What marks the map or ends the cycle changes the same in two states that differ in the Work Store alone. -/
theorem ButWork.mark {s t : State} (h : ButWork s t) (off : Offset) (lanes : Lanes) :
    ButWork (s.mark off lanes) (t.mark off lanes) := by
  unfold ButWork at h ⊢
  rw [h]
  rfl

theorem ButWork.endCycle {s t : State} (h : ButWork s t) (a : HostAnswer) : ButWork (s.endCycle a) (t.endCycle a) := by
  unfold ButWork at h ⊢
  rw [h]
  rfl

theorem ButWork.withBuffer {s t : State} (h : ButWork s t) (buffer : List PostEntry) :
    ButWork { s with hbi := { s.hbi with buffer := buffer } } { t with hbi := { t.hbi with buffer := buffer } } := by
  unfold ButWork at h ⊢
  rw [h]

/-- An unposted write completes (R49). -/
theorem exec_unpostedWriteComplete (s : State) (c : HostCycle) (ha : s.wsc.access = some .hostWrite)
    (hc : s.hbi.cycle = some c) :
    exec .unpostedWriteComplete s
      = (State.endCycle .readyWrite
          ((s.endAccess.writeLanes c.offset c.lanes c.data).mark c.offset c.lanes)).settle.done := by
  show execUnpostedWriteComplete s = _
  unfold execUnpostedWriteComplete
  simp only [ha, hc]

/-- Settles O44: the lanes are written, and nothing the end of the cycle does touches the Work Store. -/
theorem unpostedWriteWritesItsLanes : Obligations.UnpostedWriteWritesItsLanes := by
  intro s c hcanon ha hc v
  obtain ⟨-, hwork, hparity, -⟩ := hcanon
  have hbut : ButWork s.endAccess (s.endAccess.writeLanes c.offset c.lanes c.data) := State.writeWork_butWork ..
  exact ⟨_, (hbut.mark c.offset c.lanes).endCycle .readyWrite,
    State.writeWork_written c.offset.toNat (carries c.lanes) (getByte c.data) 4 s.endAccess hwork hparity,
    exec_unpostedWriteComplete s c ha hc⟩

/-! ### The drain -/

/-- A write that waited for a slot is posted and ends ready (R46). -/
theorem State.afterDrain_slot (s : State) (c : HostCycle) (hc : s.hbi.cycle = some c) (hs : c.stage = .awaitSlot) :
    s.afterDrain = (s.post c.entry).endCycle .readyWrite := by
  unfold State.afterDrain
  simp only [hc, hs]

/-- A cycle that waited for the buffer goes on when it is empty (R43). -/
theorem State.afterDrain_empty (s : State) (c : HostCycle) (hc : s.hbi.cycle = some c) (hs : c.stage = .awaitDrain)
    (hb : s.hbi.buffer = []) : s.afterDrain = s.restage .awaitWork := by
  unfold State.afterDrain
  simp only [hc, hs, hb]
  rfl

/-- Every other cycle stays as it is. -/
theorem State.afterDrain_stays (s : State) (c : HostCycle) (hc : s.hbi.cycle = some c) (hs : c.stage ≠ .awaitSlot)
    (hd : ¬ (c.stage = .awaitDrain ∧ s.hbi.buffer = [])) : s.afterDrain = s := by
  unfold State.afterDrain
  rw [hc]
  dsimp only
  split
  · exact absurd ‹c.stage = .awaitSlot› hs
  · rename_i hdrain
    exact if_neg fun hb => hd ⟨hdrain, List.isEmpty_iff.mp hb⟩
  · rfl

theorem State.afterDrain_free (s : State) (hc : s.hbi.cycle = none) : s.afterDrain = s := by
  unfold State.afterDrain
  rw [hc]

theorem ButWork.afterDrain {s t : State} (h : ButWork s t) : ButWork s.afterDrain t.afterDrain := by
  unfold ButWork at h
  rw [h]
  unfold State.afterDrain
  dsimp only
  split
  · split
    · rfl
    · split
      all_goals rfl
    · rfl
  · rfl

/-- A drain completes (R47). -/
theorem exec_drainComplete (s : State) (e : PostEntry) (rest : List PostEntry) (ha : s.wsc.access = some .drain)
    (hb : s.hbi.buffer = e :: rest) :
    exec .drainComplete s
      = (State.afterDrain { s.endAccess.writeLanes e.offset e.lanes e.data with
          hbi := { (s.endAccess.writeLanes e.offset e.lanes e.data).hbi with buffer := rest } }).settle.done := by
  show execDrainComplete s = _
  unfold execDrainComplete
  simp only [ha, hb]

/-- What a drain does for the waiting cycle leaves the Work Store. -/
theorem State.afterDrain_work (s : State) :
    s.afterDrain.work = s.work ∧ s.afterDrain.workParity = s.workParity := by
  unfold State.afterDrain
  split
  · split
    · exact ⟨rfl, rfl⟩
    · split
      all_goals exact ⟨rfl, rfl⟩
    · exact ⟨rfl, rfl⟩
  · exact ⟨rfl, rfl⟩

/-- Settles O45: the entry's lanes are written and it leaves; then the waiting cycle goes on by its state. -/
theorem drainWritesOldestEntry : Obligations.DrainWritesOldestEntry := by
  intro s e rest hcanon ha hb left v
  obtain ⟨-, hwork, hparity, -⟩ := hcanon
  have hv : left.afterDrain = v := by
    cases hc : s.hbi.cycle with
    | none =>
      simp only [v, hc]
      exact left.afterDrain_free hc
    | some c =>
      simp only [v, hc]
      by_cases hs : c.stage = .awaitSlot
      · rw [if_pos hs, left.afterDrain_slot c hc hs]
        rfl
      · rw [if_neg hs]
        by_cases hd : c.stage = .awaitDrain ∧ rest = []
        · rw [if_pos hd, left.afterDrain_empty c hc hd.1 hd.2]
          unfold State.restage
          rw [show left.hbi.cycle = some c from hc]
          rfl
        · rw [if_neg hd, left.afterDrain_stays c hc hs hd]
  have hbut : ButWork s.endAccess (s.endAccess.writeLanes e.offset e.lanes e.data) := State.writeWork_butWork ..
  have hwritten := State.writeWork_written e.offset.toNat (carries e.lanes) (getByte e.data) 4 s.endAccess hwork hparity
  refine ⟨_, ?but, ?written, exec_drainComplete s e rest ha hb⟩
  case but =>
    rw [← hv]
    exact (hbut.withBuffer rest).afterDrain
  case written =>
    unfold WorkWritten at hwritten ⊢
    rw [(State.afterDrain_work _).1, (State.afterDrain_work _).2]
    exact hwritten

end Sys2Proof.Machine
end

section
/-! PROOF. The assertion of RESET (O59). -/

namespace Sys2Proof.Machine

/-- RESET is asserted while it is released. -/
theorem exec_resetAssert (s : State) (h : s.inReset = false) :
    exec .resetAssert s = .next s.abandonAccess.clearForReset.drive := by
  show execResetAssert s = _
  unfold execResetAssert
  exact if_neg (by simp [h])

theorem State.clearForReset_hits (s : State) (i : Fin 16) : s.clearForReset.rtu.overlays[i].hits = 0#16 := by
  simp only [State.clearForReset, Fin.getElem_fin, Vector.getElem_ofFn]

/-! ### Abandoned writes -/

/-- A write of the selected bytes that have landed is a write of the selected bytes, perhaps cut short (R55). -/
theorem WorkWritten.perhaps {off n : Nat} {sel landed : Nat → Bool} {dat : Nat → Byte} {s t : State}
    (h : WorkWritten off n (fun k => sel k && landed k) dat s t) : WorkPerhapsWritten off n sel dat s t := by
  intro a
  have ha := h a
  by_cases hin : off ≤ a ∧ a < off + n ∧ (sel (a - off) && landed (a - off)) = true
  · rw [if_pos hin] at ha
    obtain ⟨hlo, hhi, hsel⟩ := hin
    exact .inr ⟨hlo, hhi, (Bool.and_eq_true_iff.mp hsel).1, ha⟩
  · rw [if_neg hin] at ha
    exact .inl ha

/-- Abandoned lanes hold their old value or the written one (R55). -/
theorem State.abandonLanes_written (off : Offset) (lanes : Lanes) (data : Word) (s : State) (h : s.StoresCanonical) :
    WorkPerhapsWritten off.toNat 4 (carries lanes) (getByte data) s (s.abandonLanes off lanes data) := by
  obtain ⟨-, hwork, hparity, -⟩ := h
  exact (State.writeWork_written _ _ _ 4 s hwork hparity).perhaps

/-- An abandoned drain (R55). -/
theorem State.abandonAccess_drain (s : State) (e : PostEntry) (rest : List PostEntry) (ha : s.wsc.access = some .drain)
    (hb : s.hbi.buffer = e :: rest) : s.abandonAccess = s.abandonLanes e.offset e.lanes e.data := by
  unfold State.abandonAccess
  simp only [ha, hb]

/-- An abandoned unposted write (R55). -/
theorem State.abandonAccess_hostWrite (s : State) (c : HostCycle) (ha : s.wsc.access = some .hostWrite)
    (hc : s.hbi.cycle = some c) : s.abandonAccess = s.abandonLanes c.offset c.lanes c.data := by
  unfold State.abandonAccess
  simp only [ha, hc]

/-- An abandoned write of a line (R85). -/
theorem State.abandonAccess_lineWrite (s : State) (off : Offset) (d : Line) (m : LineMask) (x : Bool)
    (ha : s.wsc.access = some (.lineWrite off d m x)) :
    s.abandonAccess = s.writeWork off.toNat (fun k => !m.getLsbD k && s.landed off k) (lineByte d) 32 := by
  unfold State.abandonAccess
  simp only [ha]

/-- An abandoned access of the aux port (R133). -/
theorem State.abandonAccess_aux (s : State) (c : AuxCycle) (k : Bool) (ha : s.wsc.access = some (.aux k))
    (hc : s.amp.cycle = .access c) :
    s.abandonAccess = if c.dir = .write then s.abandonLanes c.offset c.lanes c.data else s := by
  unfold State.abandonAccess
  simp only [ha, hc]

/-- A read that is abandoned, and no access at all, change nothing. -/
theorem State.abandonAccess_read (s : State)
    (h : s.wsc.access = none ∨ (∃ k, s.wsc.access = some (.hostRead k))
      ∨ (∃ o k x, s.wsc.access = some (.lineRead o k x))
      ∨ (∃ c k, s.wsc.access = some (.aux k) ∧ s.amp.cycle = .access c ∧ c.dir = .read)) : s.abandonAccess = s := by
  rcases h with ha | ⟨k, ha⟩ | ⟨o, k, x, ha⟩ | ⟨c, k, ha, hc, hd⟩
  case inr.inr.inr =>
    rw [s.abandonAccess_aux c k ha hc]
    exact if_neg (by simp [hd])
  all_goals
    unfold State.abandonAccess
    simp only [ha]

/-- Settles O59: the access is abandoned in the Work Store alone, and the rest is cleared whatever it held. -/
theorem resetAssertionEmptiesThePart : Obligations.ResetAssertionEmptiesThePart := by
  intro s hr
  obtain ⟨hboot, hstraps, hareq, hastb⟩ : s.abandonAccess.boot = s.boot ∧ s.abandonAccess.straps = s.straps
      ∧ s.abandonAccess.amp.areq = s.amp.areq ∧ s.abandonAccess.amp.astb = s.amp.astb := by
    rw [show s.abandonAccess = _ from s.abandonAccess_butWork]
    exact ⟨rfl, rfl, rfl, rfl⟩
  refine ⟨_, exec_resetAssert s hr, rfl, rfl, rfl, rfl, rfl, rfl, rfl, rfl, rfl, rfl, rfl, rfl, rfl, rfl, rfl, rfl, rfl,
    rfl, rfl, rfl, rfl, rfl, rfl, State.clearForReset_hits _, rfl, rfl, rfl, rfl, rfl, rfl, hboot, hstraps, hareq,
    hastb, fun e rest hcanon ha hb => ?drain, fun c hcanon ha hc => ?hostWrite, fun off d m x hcanon ha => ?lineWrite,
    fun c k hcanon ha hc hd => ?aux, fun h => ?read⟩
  case drain =>
    rw [s.abandonAccess_drain e rest ha hb]
    exact State.abandonLanes_written e.offset e.lanes e.data s hcanon
  case hostWrite =>
    rw [s.abandonAccess_hostWrite c ha hc]
    exact State.abandonLanes_written c.offset c.lanes c.data s hcanon
  case lineWrite =>
    obtain ⟨-, hwork, hparity, -⟩ := hcanon
    rw [s.abandonAccess_lineWrite off d m x ha]
    exact (State.writeWork_written _ _ _ 32 s hwork hparity).perhaps
  case aux =>
    rw [s.abandonAccess_aux c k ha hc, if_pos hd]
    exact State.abandonLanes_written c.offset c.lanes c.data s hcanon
  case read =>
    rw [s.abandonAccess_read h]
    exact fun a => ⟨rfl, rfl⟩

end Sys2Proof.Machine
end

section
/-! PROOF. The engine's commands: SUBMIT_JOB with its checks in order, ABORT_ACTIVE, FLUSH_QUEUED and ENGINE_RESET (O29,
O30, O31, family 04_transfer_engine.md). -/

namespace Sys2Proof.Machine

/-! ### The fields of a job staging record -/

/-- A byte names the job kind whose code it is. -/
theorem JobKind.ofCode_eq_some_iff (b : Byte) (k : JobKind) : JobKind.ofCode b = some k ↔ k.code = b := by
  revert b
  cases k <;> decide

theorem JobKind.ofCode_isSome_iff (b : Byte) : (∃ k, JobKind.ofCode b = some k) ↔ 1 ≤ b.toNat ∧ b.toNat ≤ 3 := by
  rw [← Option.isSome_iff_exists]
  revert b
  decide

/-- The code of a completion action: 0 for NONE, otherwise the code of its mode plus 1 (R177). -/
def actionCode : Option Mode → Byte
  | none => 0#8
  | some m => m.code + 1#8

/-- A byte names the completion action whose code it is. -/
theorem actionOfCode_eq_some_iff (b : Byte) (act : Option Mode) : actionOfCode b = some act ↔ actionCode act = b := by
  revert b
  rcases act with _ | m
  · decide
  · cases m <;> decide

theorem actionOfCode_isSome_iff (b : Byte) : (∃ act, actionOfCode b = some act) ↔ b.toNat ≤ 6 := by
  rw [← Option.isSome_iff_exists]
  revert b
  decide

/-- The fields of a job staging record pass their checks (R58, step 2). -/
def JobStaging.FieldsPass (r : JobStaging) : Prop :=
  (1 ≤ r.kind.toNat ∧ r.kind.toNat ≤ 3) ∧ r.block.toNat ≤ 63 ∧ r.firstLine.toNat ≤ 8191
    ∧ (1 ≤ r.lineCount.toNat ∧ r.lineCount.toNat ≤ 8192) ∧ r.firstLine.toNat + r.lineCount.toNat ≤ 8192
    ∧ r.action.toNat ≤ 6 ∧ (r.kind = 2#8 → 1 ≤ r.limit.toNat)

/-- A job staging record stages a job exactly where its fields pass. -/
theorem JobStaging.fieldsPass_iff (r : JobStaging) : r.FieldsPass ↔ ∃ j, r.job? = some j := by
  unfold JobStaging.FieldsPass JobStaging.job?
  rw [← JobKind.ofCode_isSome_iff, ← actionOfCode_isSome_iff]
  rcases hk : JobKind.ofCode r.kind with _ | k
  · simp
  rcases actionOfCode r.action with _ | act
  · simp
  have hverify : r.kind = 2#8 ↔ k = .verify := by
    rw [← (JobKind.ofCode_eq_some_iff _ _).mp hk]
    cases k <;> decide
  by_cases hb : r.block.toNat < 64
  · simp [hb, hverify, Nat.le_of_lt_succ hb, and_assoc]
  · simp [hb, show ¬ r.block.toNat ≤ 63 by omega]

/-- The job a job staging record stages holds the record's eight fields (R58). -/
theorem JobStaging.job?_holds {r : JobStaging} {j : Job} (h : r.job? = some j) :
    j.tag = r.tag ∧ j.kind.code = r.kind ∧ j.block.val = r.block.toNat ∧ j.firstLine = r.firstLine.toNat
      ∧ j.lineCount = r.lineCount.toNat ∧ j.pattern = r.pattern ∧ j.limit = r.limit
      ∧ actionCode j.action = r.action := by
  unfold JobStaging.job? at h
  split at h
  · rename_i k act hk hact
    split at h
    · split at h
      · simp only [Option.some.injEq] at h
        subst h
        exact ⟨rfl, (JobKind.ofCode_eq_some_iff _ _).mp hk, rfl, rfl, rfl, rfl, rfl,
          (actionOfCode_eq_some_iff _ _).mp hact⟩
      · cases h
    · cases h
  · cases h

/-! ### What the rule of each command answers -/

theorem State.runSubmitJob_full (s : State) (hq : 8 ≤ s.txe.queue.length) :
    s.runSubmitJob = { state := s, result := .queueFull } :=
  if_pos hq

theorem State.runSubmitJob_badField (s : State) (hq : s.txe.queue.length < 8) (hj : s.rgw.staging.job.job? = none) :
    s.runSubmitJob = { state := s, result := .badField } := by
  unfold State.runSubmitJob
  rw [if_neg (Nat.not_le.mpr hq), hj]

theorem State.runSubmitJob_ok (s : State) (hq : s.txe.queue.length < 8) (j : Job)
    (hj : s.rgw.staging.job.job? = some j) :
    s.runSubmitJob = { state := { s with txe := { s.txe with queue := s.txe.queue ++ [j] } }, result := .ok } := by
  unfold State.runSubmitJob
  rw [if_neg (Nat.not_le.mpr hq), hj]

/-- Settles O29: the checks of R58 in turn; the job the staging record stages exists exactly where its fields pass. -/
theorem submitJobChecksThenAppends : Obligations.SubmitJobChecksThenAppends := by
  intro s c h r fields
  have hfields : fields ↔ ∃ j, r.job? = some j := r.fieldsPass_iff
  refine ⟨fun hq => ?full, fun hq hf => ?badField, fun hq hf => ?ok⟩
  case full => exact State.command_refuses _ _ _ _ _ _ h rfl (State.runSubmitJob_full (s.openIo c) hq)
  case badField =>
    have hnone : r.job? = none := by
      rw [← Option.not_isSome_iff_eq_none, Option.isSome_iff_exists, ← hfields]
      exact hf
    exact State.command_refuses _ _ _ _ _ _ h rfl (State.runSubmitJob_badField (s.openIo c) hq hnone)
  case ok =>
    obtain ⟨j, hj⟩ := hfields.mp hf
    obtain ⟨htag, hkind, hblock, hfirst, hcount, hpattern, hlimit, haction⟩ := JobStaging.job?_holds hj
    exact ⟨j, htag, hkind, hblock, hfirst, hcount, hpattern, hlimit, haction,
      State.command_windowWritten _ _ _ _ _ _ _ _ h rfl (State.runSubmitJob_ok (s.openIo c) hq j hj) rfl⟩

theorem State.runAbortActive_running (s : State) (a : ActiveJob) (he : s.txe.engine = .running a) :
    s.runAbortActive = { state := { s with txe := { s.txe with engine := .draining a } }, result := .ok } := by
  unfold State.runAbortActive
  rw [he]

theorem State.runAbortActive_draining (s : State) (a : ActiveJob) (he : s.txe.engine = .draining a) :
    s.runAbortActive = { state := s, result := .ok } := by
  unfold State.runAbortActive
  rw [he]

theorem State.runAbortActive_inactive (s : State) (he : s.txe.engine.active = none) :
    s.runAbortActive = { state := s, result := .nothingActive } := by
  unfold State.runAbortActive
  rcases hs : s.txe.engine with _ | a | a | r
  case running => simp [hs, EngineState.active] at he
  case draining => simp [hs, EngineState.active] at he
  all_goals rfl

/-- Settles O30: R80 by the state of the engine; R82 in every state. -/
theorem abortStartsDrainingAndFlushEmptiesQueue : Obligations.AbortStartsDrainingAndFlushEmptiesQueue := by
  intro s c
  refine ⟨fun h => ?abort, fun h => ?flush⟩
  case abort =>
    show s.command c _ State.runAbortActive = _
    rcases he : s.txe.engine with _ | a | a | r
    case running =>
      exact State.command_windowWritten _ _ _ _ _ _ _ _ h rfl (State.runAbortActive_running (s.openIo c) a he) rfl
    case draining =>
      exact State.command_windowWritten _ _ _ _ _ _ _ _ h rfl (State.runAbortActive_draining (s.openIo c) a he) rfl
    all_goals
      have hn : s.txe.engine.active = none := by rw [he]; rfl
      exact State.command_refuses _ _ _ _ _ _ h rfl (State.runAbortActive_inactive (s.openIo c) hn)
  case flush => exact State.command_windowWritten s c _ State.runFlushQueued _ _ _ _ h rfl rfl rfl

/-! ### ENGINE_RESET -/

/-- The state with the engine's work discarded, before the arbiter answers the withdrawal of its want (R83, R84). -/
def State.engineDiscarded (s : State) : State :=
  { s with
    txe := defaultTxe
    rtu := { s.rtu with pin := none }
    wsc := { s.wsc with access := s.wsc.access.map WorkAccess.drop }
    bsc := { s.bsc with accessor := s.bsc.accessor.map BootAccess.drop, engineRequest := none } }

/-- The rule of ENGINE_RESET on the opened cycle: the settling touches neither the outputs nor the index, which the cycle
has set. -/
theorem State.runEngineReset_openIo (s : State) (c : IoCycle) :
    (s.openIo c).runEngineReset
      = { state := { s.engineDiscarded.settle with
            pins := s.openPins .io (wordAddr c.ha) .write true
            rgw := { s.engineDiscarded.settle.rgw with index := s.selectedIndex c } }
          result := .ok } := by
  obtain ⟨-, -, hrgw, -⟩ := State.settle_outside s.engineDiscarded
  have hsettle := s.engineDiscarded.settle_withIo (s.openPins .io (wordAddr c.ha) .write true)
    { s.rgw with index := s.selectedIndex c }
  rw [hrgw]
  exact congrArg (fun u => ({ state := u, result := .ok } : Reply)) hsettle

/-- Settles O31: what is discarded is written out in R83 and R84; the settling after it reads nothing the cycle sets. -/
theorem engineResetDiscardsWork : Obligations.EngineResetDiscardsWork := by
  intro s c h u
  have hu : s.engineDiscarded = u := by
    unfold State.engineDiscarded
    rcases ha : s.wsc.access with _ | ⟨_ | _ | _ | _ | _ | _⟩
    all_goals
      simp only [u, ha]
      rfl
  obtain ⟨-, -, -, -, -, hpins, -⟩ := State.settle_outside s.engineDiscarded
  rw [← hu]
  exact State.command_windowWritten _ _ _ State.runEngineReset _ _ _ _ h rfl (s.runEngineReset_openIo c) hpins

end Sys2Proof.Machine
end

section
/-! PROOF. Lines and jobs of the engine: how a line begins and completes, how a job ends, and the activation of the head
job (O46, O50, O51). -/

namespace Sys2Proof.Machine

/-! ### How a line begins -/

/-- A FILL line begins with its pattern (R70). -/
theorem State.beginLine_fill (s : State) (a : ActiveJob) (hk : a.job.kind = .fill) :
    s.beginLine a = { s with
      txe := { s.txe with engine := .running { a with stage := .awaitWork (patternLine a.job.pattern) } } } :=
  if_pos hk

/-- Any other line begins with its Boot read where the Boot Store Controller is free (R67). -/
theorem State.beginLine_starts (s : State) (a : ActiveJob) (hk : a.job.kind ≠ .fill) (ha : s.bsc.accessor = none)
    (hq : s.bsc.hostRequest = none) :
    s.beginLine a = { s with
      txe := { s.txe with engine := .running { a with stage := .bootRead } }
      bsc := s.bsc.startEngine (a.bootOffset a.nextLine) } :=
  (if_neg hk).trans (if_pos (by simp [ha, hq]))

/-- Behind an access in progress, or a host read that waits, it holds its request (R67, R113). -/
theorem State.beginLine_waits (s : State) (a : ActiveJob) (hk : a.job.kind ≠ .fill)
    (hbusy : s.bsc.accessor ≠ none ∨ s.bsc.hostRequest ≠ none) :
    s.beginLine a = { s with
      txe := { s.txe with engine := .running { a with stage := .awaitBoot } }
      bsc := { s.bsc with engineRequest := some (a.bootOffset a.nextLine) } } :=
  (if_neg hk).trans (if_neg (by simpa [Decidable.or_iff_not_imp_left] using hbusy))

/-! ### How a line completes -/

/-- A completed line is counted once, and once more by what became of it (R69, R74, R75). -/
theorem ActiveJob.count_eq (a : ActiveJob) (r : LineResult) :
    a.count r = { a with
      linesDone := a.linesDone + 1
      skipped := a.skipped + (if r = .skipped then 1 else 0)
      merged := a.merged + (if r = .merged then 1 else 0)
      mismatches := a.mismatches + (if r = .mismatch then 1 else 0) } := by
  cases r <;> rfl

/-- The limit is reached where the counted mismatches come to it (R74). -/
theorem ActiveJob.limitReached_iff (a : ActiveJob) (r : LineResult) :
    a.limitReached r = true ↔ r = .mismatch ∧ a.job.limit.toNat ≤ (a.count r).mismatches := by
  cases r <;> simp [ActiveJob.limitReached, ActiveJob.count]

theorem ActiveJob.atLast_iff (a : ActiveJob) :
    a.atLast = true ↔ a.job.firstLine + a.job.lineCount ≤ a.nextLine + 1 :=
  decide_eq_true_iff

/-- While DRAINING the job ends with the line in progress (R81). -/
theorem State.completeLine_draining (s : State) (a : ActiveJob) (r : LineResult) (he : s.txe.engine = .draining a) :
    s.completeLine r = s.jobEnd (a.count r) .aborted .abortCommand := by
  unfold State.completeLine
  rw [he]

/-- While RUNNING the mismatch limit ends the job, then its last line, and otherwise the next line begins (R74, R75). -/
theorem State.completeLine_running (s : State) (a : ActiveJob) (r : LineResult) (he : s.txe.engine = .running a) :
    s.completeLine r =
      if a.limitReached r then s.jobEnd (a.count r) .failed .mismatchLimit
      else if a.atLast then s.jobEnd (a.count r) .done .none
      else s.beginLine { a.count r with nextLine := a.nextLine + 1 } := by
  unfold State.completeLine
  rw [he]

/-- Settles O50: the three ways a line begins, and the four ways the engine goes on after it. -/
theorem linesBeginAndCompleteInOrder : Obligations.LinesBeginAndCompleteInOrder := by
  refine ⟨fun s a => ?begins, fun s a r => ?completes⟩
  case begins =>
    intro off running
    refine ⟨fun hk => ?fill, fun hk ha hq => ?starts, fun hk hbusy => ?waits⟩
    case fill => exact s.beginLine_fill a hk
    case starts =>
      rw [s.beginLine_starts a hk ha hq, Bsc.startEngine_eq]
      rfl
    case waits => exact s.beginLine_waits a hk hbusy
  case completes =>
    intro n limit last
    have hn : a.count r = n := a.count_eq r
    have hlimit : a.limitReached r = true ↔ limit := by
      rw [a.limitReached_iff, hn]
    have hlast : a.atLast = true ↔ last := a.atLast_iff
    refine ⟨fun he => ?draining, fun he hl => ?atLimit, fun he hl ht => ?atLast, fun he hl ht => ?next⟩
    case draining => rw [s.completeLine_draining a r he, hn]
    all_goals rw [s.completeLine_running a r he, hn]
    case atLimit => exact if_pos (hlimit.mpr hl)
    case atLast => exact (if_neg (hlimit.not.mpr hl)).trans (if_pos (hlast.mpr ht))
    case next => exact (if_neg (hlimit.not.mpr hl)).trans (if_neg (hlast.not.mpr ht))

/-! ### How a job ends -/

/-- The action result by Table 4-5: whether an action was asked for, then the outcome, then the lock (R77). -/
theorem actionResult_eq (action : Option Mode) (outcome : JobOutcome) (lock : Bool) :
    actionResult action outcome lock =
      if action = none then .noneRequested
      else if outcome ≠ .done then .notApplied
      else if lock then .refusedLocked else .applied := by
  rcases action with _ | m
  · rfl
  · by_cases ho : outcome = .done <;> simp [actionResult, ho]

/-- The routes after a job end: the action's mode in the block's entry where the action is applied (R76, R77). -/
def Rtu.routesAfter (t : Rtu) (a : ActiveJob) (result : ActionResult) : Vector RouteEntry 64 :=
  match a.job.action with
  | some m =>
    if result = .applied then t.routes.set a.job.block { t.routes[a.job.block] with mode := m } else t.routes
  | none => t.routes

/-- The settled action writes the routes and nothing else. -/
theorem State.settleAction_eq (s : State) (a : ActiveJob) (outcome : JobOutcome) :
    s.settleAction a outcome = { s with
      rtu := { s.rtu with routes := s.rtu.routesAfter a (actionResult a.job.action outcome s.rtu.lock) } } := by
  unfold State.settleAction Rtu.routesAfter
  cases a.job.action with
  | none => rfl
  | some m =>
    by_cases happlied : actionResult (some m) outcome s.rtu.lock = .applied
    · simp only [happlied, if_true]
      rfl
    · simp only [happlied, if_false]

/-- Settles O51: the pin and the map go, the action writes the routes, and the record is offered to the list. -/
theorem jobEndReleasesActsAndReports : Obligations.JobEndReleasesActsAndReports := by
  intro s a outcome reason result record e routes
  have hresult : actionResult a.job.action outcome s.rtu.lock = result := actionResult_eq ..
  have hrecord : a.record outcome reason s.rtu.lock = record := by
    unfold ActiveJob.record
    rw [hresult]
    simp only [decide_eq_true_iff]
    rfl
  unfold State.jobEnd State.retire
  rw [State.settleAction_eq, hresult, hrecord]
  rfl

/-! ### Activation -/

/-- The activation of a job that is refused its target ends it at once (R64). -/
theorem exec_activation_refused (s : State) (j : Job) (rest : List Job) (he : s.txe.engine = .idle)
    (hq : s.txe.queue = j :: rest)
    (hr : j.lockedTarget s.rtu.routes[j.block].mode s.rtu.lock = true) :
    exec .activation s
      = (State.retire (j.activate s.rtu.routes[j.block]) .failed .lockedTarget
          { s with txe := { s.txe with queue := rest } }).done := by
  show execActivation s = _
  unfold execActivation
  simp only [he, hq, hr, if_true]

/-- Any other activation pins the block, arms the map and begins the first line (R63, R65). -/
theorem exec_activation_begins (s : State) (j : Job) (rest : List Job) (he : s.txe.engine = .idle)
    (hq : s.txe.queue = j :: rest)
    (hr : j.lockedTarget s.rtu.routes[j.block].mode s.rtu.lock = false) :
    exec .activation s
      = (State.beginLine (j.activate s.rtu.routes[j.block]) { s with
          txe := { s.txe with
            queue := rest
            map := if j.kind = .verify then s.txe.map
              else some ((j.activate s.rtu.routes[j.block]).armedMap.scan s.hbi.buffer) }
          rtu := { s.rtu with pin := some j.block } }).settle.done := by
  show execActivation s = _
  unfold execActivation
  simp only [he, hq, hr, Bool.false_eq_true, if_false]

/-- The conditions of R64 on a refused target. -/
theorem Job.lockedTarget_iff (j : Job) (mode : Mode) (lock : Bool) :
    j.lockedTarget mode lock = true ↔ j.kind ≠ .verify ∧ lock = true ∧ mode = .shadow := by
  simp only [Job.lockedTarget, Bool.and_eq_true, decide_eq_true_iff, and_assoc]

/-- A job that ends at its activation has done nothing: its record holds no counts, and no action is applied (R64). -/
theorem Job.record_lockedTarget (j : Job) (e : RouteEntry) (lock : Bool) :
    (j.activate e).record .failed .lockedTarget lock =
      { tag := j.tag, kind := j.kind, block := j.block, outcome := .failed, reason := .lockedTarget, linesDone := 0
        skipped := 0, merged := 0, mismatches := 0
        actionResult := if j.action = none then .noneRequested else .notApplied } := by
  obtain ⟨tag, kind, block, firstLine, lineCount, pattern, limit, action⟩ := j
  unfold ActiveJob.record
  rw [actionResult_eq]
  cases kind
  all_goals rfl

/-- Settles O46: the target is refused, or the block pinned, the map armed and scanned, and the first line begun. -/
theorem activationPinsArmsAndBegins : Obligations.ActivationPinsArmsAndBegins := by
  intro s j rest he hq e a refused armed
  have hlocked : j.lockedTarget e.mode s.rtu.lock = true ↔ refused := j.lockedTarget_iff e.mode s.rtu.lock
  refine ⟨fun hr => ?refused, fun hr => ?begins⟩
  case refused =>
    rw [exec_activation_refused s j rest he hq (hlocked.mpr hr),
      State.retire_unapplied _ _ _ _ (actionResult_failed _ _), Job.record_lockedTarget]
    rfl
  case begins =>
    rw [exec_activation_begins s j rest he hq (Bool.eq_false_iff.mpr (hlocked.not.mpr hr))]
    rfl

end Sys2Proof.Machine
end

section
/-! PROOF. The Work Store accesses of a line: the write that keeps the marked bytes and the checked read of a VERIFY
(O48, O49). -/

namespace Sys2Proof.Machine

/-! ### How a line's access starts -/

/-- A line that starts its access: what the access carries and the stage it brings (R68). -/
def State.startLine (st : LineStage) (w : WorkAccess) (s : State) : State := (s.startAccess w).setStage st

/-- While RUNNING or DRAINING the start of a line's access leaves the phase (R68, R81). -/
theorem State.startLine_phase (s : State) (a : ActiveJob) (phase : ActiveJob → EngineState)
    (hp : phase = .running ∨ phase = .draining) (he : s.txe.engine = phase a) (st : LineStage) (w : WorkAccess) :
    s.startLine st w = { s with
      txe := { s.txe with engine := phase { a with stage := st } }
      wsc := { s.wsc with access := some w }
      wpa := { s.wpa with
        idle := .stopped
        guarantee := if s.wpa.guarantee = .running 0 then .expired else s.wpa.guarantee } } := by
  unfold State.startLine State.setStage
  rw [State.startAccess_txe, he]
  rcases hp with rfl | rfl
  all_goals rfl

/-- A VERIFY line that ENGINE serves starts its read, with the parity-check enable as it stands (R71, R117). -/
theorem State.serveEngine_verify (n : Nat) (s : State) (a : ActiveJob) (d : Line) (ha : s.txe.engine.active = some a)
    (hs : a.stage = .awaitWork d) (hk : a.job.kind = .verify) :
    State.serveEngine (n + 1) s
      = s.startLine (.workRead d) (.lineRead (a.workOffset a.nextLine) s.wsc.parityCheck false) := by
  unfold State.serveEngine
  simp only [ha, hs]
  exact if_pos hk

/-- A COPY or FILL line that ENGINE serves is skipped where all its bytes are marked, and otherwise starts its write with
the mask as it stands (R68, R69). -/
theorem State.serveEngine_write (n : Nat) (s : State) (a : ActiveJob) (d : Line) (ha : s.txe.engine.active = some a)
    (hs : a.stage = .awaitWork d) (hk : a.job.kind ≠ .verify) :
    State.serveEngine (n + 1) s =
      if s.txe.lineMask a = BitVec.allOnes 32 then State.serveEngine n (s.completeLine .skipped)
      else s.startLine .workWrite (.lineWrite (a.workOffset a.nextLine) d (s.txe.lineMask a) false) := by
  conv_lhs => unfold State.serveEngine
  simp only [ha, hs]
  exact if_neg hk

/-- The mask of the line in progress, where the map is armed (R69). -/
theorem Txe.lineMask_armed (t : Txe) (a : ActiveJob) (m : ByteMap) (hm : t.map = some m) :
    t.lineMask a = LineMasks.read m.masks (a.nextLine - a.job.firstLine) := by
  unfold Txe.lineMask
  rw [hm]
  rfl

/-! ### How a line write completes -/

/-- A line write writes its bytes and completes its line; a dropped one has no line to complete (R69, R84). -/
theorem exec_lineWriteComplete (s : State) (off : Offset) (data : Line) (mask : LineMask) (dropped : Bool)
    (ha : s.wsc.access = some (.lineWrite off data mask dropped)) :
    exec .lineWriteComplete s
      = State.done (State.settle
          (if dropped then s.endAccess.writeLine off mask data
           else (s.endAccess.writeLine off mask data).completeLine (if mask = 0#32 then .plain else .merged))) := by
  show execLineWriteComplete s = _
  unfold execLineWriteComplete
  simp only [ha]
  split
  all_goals rfl

/-- Settles O48: the access carries the mask the line has at its start, and its completion writes by that mask. -/
theorem lineAccessTakesMaskAndKeepsMarkedBytes : Obligations.LineAccessTakesMaskAndKeepsMarkedBytes := by
  refine ⟨fun s a phase d n hp he hs => ?starts, fun s off data mask dropped hcanon ha => ?completes⟩
  case starts =>
    intro off started
    have hactive : s.txe.engine.active = some a := by
      rw [he]
      rcases hp with rfl | rfl
      all_goals rfl
    have hstarted (st : LineStage) (w : WorkAccess) : s.startLine st w = started st w :=
      s.startLine_phase a phase hp he st w
    refine ⟨fun m hk hm => ?write, fun hk => ?verify⟩
    case write =>
      intro mask
      have hmask : s.txe.lineMask a = mask := s.txe.lineMask_armed a m hm
      rw [s.serveEngine_write n a d hactive hs hk, hmask, ← hstarted]
      exact ⟨fun hall => if_pos hall, fun hall => if_neg hall⟩
    case verify => exact (s.serveEngine_verify n a d hactive hs hk).trans (hstarted _ _)
  case completes =>
    obtain ⟨-, hwork, hparity, -⟩ := hcanon
    exact ⟨s.endAccess.writeLine off mask data, State.writeWork_butWork ..,
      State.writeWork_written off.toNat (fun k => !mask.getLsbD k) (lineByte data) 32 s.endAccess hwork hparity,
      exec_lineWriteComplete s off data mask dropped ha⟩

/-! ### What a VERIFY line finds -/

/-- A lane of the failing lanes of a word is set exactly where its byte fails parity. -/
theorem State.failingWord_getLsbD (s : State) (off : Offset) (w k : Nat) (hk : k < 4) :
    (s.failingWord off w).getLsbD k = s.parityFails (off.toNat + w + k) :=
  lines4_getLsbD (fun j => s.parityFails (off.toNat + w + j.val)) ⟨k, hk⟩

/-- A word has no failing lanes exactly where none of its bytes fails parity. -/
theorem State.failingWord_eq_zero_iff (s : State) (off : Offset) (w : Nat) :
    s.failingWord off w = 0#4 ↔ ∀ k, k < 4 → s.parityFails (off.toNat + w + k) = false := by
  constructor
  · intro h k hk
    rw [← s.failingWord_getLsbD off w k hk, h]
    exact BitVec.getLsbD_zero
  · intro h
    refine BitVec.eq_of_getLsbD_eq fun k hk => ?_
    rw [s.failingWord_getLsbD off w k hk, h k hk]
    exact BitVec.getLsbD_zero.symm

/-- The positions of the eight aligned words of a line, rising. -/
theorem wordPositions_eq : [0, 4, 8, 12, 16, 20, 24, 28] = (List.range 8).map (4 * ·) := rfl

/-- The parity fault of a line names the first word with a byte that fails, and that word's failing lanes (R72). -/
theorem State.lineParityFault_first (s : State) (off : Offset) (tag : Byte) (w : Nat) (hw : w < 8)
    (hbefore : ∀ k, k < 4 * w → s.parityFails (off.toNat + k) = false) (hfails : s.failingWord off (4 * w) ≠ 0#4) :
    s.lineParityFault off tag
      = some { engineFault .workParity (off + BitVec.ofNat 24 (4 * w)) tag with
          lanes := some (s.failingWord off (4 * w)) } := by
  have hfind : [0, 4, 8, 12, 16, 20, 24, 28].find? (fun w => s.failingWord off w != 0#4) = some (4 * w) := by
    rw [wordPositions_eq, List.find?_map, Option.map_eq_some_iff]
    refine ⟨w, List.find?_range_eq_some.mpr ⟨by simpa using hfails, List.mem_range.mpr hw, fun v hv => ?_⟩, rfl⟩
    have hzero : s.failingWord off (4 * v) = 0#4 := by
      rw [State.failingWord_eq_zero_iff]
      intro k hk
      rw [Nat.add_assoc]
      exact hbefore _ (by omega)
    simp [hzero]
  unfold State.lineParityFault
  rw [hfind]
  rfl

/-- Without a byte that fails there is no parity fault. -/
theorem State.lineParityFault_none (s : State) (off : Offset) (tag : Byte)
    (h : ∀ k, k < 32 → s.parityFails (off.toNat + k) = false) : s.lineParityFault off tag = none := by
  unfold State.lineParityFault
  rw [Option.map_eq_none_iff, wordPositions_eq, List.find?_eq_none]
  intro p hp
  obtain ⟨w, hw, rfl⟩ := List.mem_map.mp hp
  rw [List.mem_range] at hw
  have hzero : s.failingWord off (4 * w) = 0#4 := by
    rw [State.failingWord_eq_zero_iff]
    intro k hk
    rw [Nat.add_assoc]
    exact h _ (by omega)
  simp [hzero]

/-- The mismatch fault of a line names the first byte that differs, with both bytes (R73). -/
theorem lineMismatchFault_first (boot work : Line) (off : Offset) (tag : Byte) (p : Fin 32)
    (hbefore : ∀ k : Fin 32, k < p → boot[k] = work[k]) (hp : boot[p] ≠ work[p]) :
    lineMismatchFault boot work off tag
      = some { engineFault .verifyMismatch off tag with
          detail := some { position := BitVec.ofNat 5 p.val, bootByte := boot[p], workByte := work[p] } } := by
  have hfind : (List.finRange 32).find? (fun k => boot[k] != work[k]) = some p := by
    refine List.find?_eq_some_iff_getElem.mpr ⟨by simpa using hp, p.val, by simp, by simp, fun j hj => ?_⟩
    simpa using hbefore ⟨j, by omega⟩ hj
  unfold lineMismatchFault
  rw [hfind]
  rfl

/-- Two equal lines give no mismatch fault. -/
theorem lineMismatchFault_none (boot work : Line) (off : Offset) (tag : Byte) (h : ∀ k : Fin 32, boot[k] = work[k]) :
    lineMismatchFault boot work off tag = none := by
  unfold lineMismatchFault
  rw [Option.map_eq_none_iff, List.find?_eq_none]
  exact fun k _ => by simp [h k]

theorem readLine_getElem (m : List Host.Cell) (off : Offset) (k : Fin 32) :
    (readLine m off)[k] = Memory.read m (off.toNat + k.val) :=
  Vector.getElem_ofFn _

/-! ### How a VERIFY read completes -/

/-- The read of a dropped line compares nothing (R84). -/
theorem exec_verifyReadComplete_dropped (s : State) (off : Offset) (check : Bool)
    (ha : s.wsc.access = some (.lineRead off check true)) :
    exec .verifyReadComplete s = s.endAccess.settle.done := by
  show execVerifyReadComplete s = _
  unfold execVerifyReadComplete
  simp only [ha, if_true]

/-- A VERIFY line completes as a mismatch with the fault it finds, and plain where it finds none (R72 to R75). -/
theorem exec_verifyReadComplete (s : State) (off : Offset) (check : Bool) (a : ActiveJob) (boot : Line)
    (ha : s.wsc.access = some (.lineRead off check false)) (hj : s.txe.engine.active = some a)
    (hs : a.stage = .workRead boot) :
    exec .verifyReadComplete s = State.done (State.settle (match s.verifyFault off check boot a.job.tag with
      | some f => (s.endAccess.handFault f).completeLine .mismatch
      | none => s.endAccess.completeLine .plain)) := by
  show execVerifyReadComplete s = _
  unfold execVerifyReadComplete
  simp only [ha, hj, hs, Bool.false_eq_true, if_false]
  cases s.verifyFault off check boot a.job.tag with
  | none => rfl
  | some f => rfl

/-- A parity fault comes first, and only where the check is on (R72). -/
theorem State.verifyFault_parity (s : State) (off : Offset) (check : Bool) (boot : Line) (tag : Byte) (f : FaultRecord)
    (hcheck : check = true) (hf : s.lineParityFault off tag = some f) : s.verifyFault off check boot tag = some f := by
  unfold State.verifyFault
  rw [if_pos hcheck, hf]

/-- Otherwise the line's bytes are compared (R73). -/
theorem State.verifyFault_compare (s : State) (off : Offset) (check : Bool) (boot : Line) (tag : Byte)
    (hf : check = true → s.lineParityFault off tag = none) :
    s.verifyFault off check boot tag = lineMismatchFault boot (readLine s.work off) off tag := by
  unfold State.verifyFault
  cases check with
  | false => rfl
  | true => rw [if_pos rfl, hf rfl]

/-- Settles O49: the fault of each outcome is the first that its search finds. -/
theorem verifyReportsFirstDifference : Obligations.VerifyReportsFirstDifference := by
  intro s off check
  refine ⟨exec_verifyReadComplete_dropped s off check, fun a boot ha hj hs => ?_⟩
  intro work fails fault
  have hwork (k : Fin 32) : (readLine s.work off)[k] = work k := readLine_getElem s.work off k
  have hfails (k : Nat) : fails k ↔ check = true ∧ s.parityFails (off.toNat + k) = true := by
    rw [parityFails_iff]
  have hclean (hc : check = true) (k : Nat) (hk : ¬ fails k) : s.parityFails (off.toNat + k) = false :=
    Bool.eq_false_iff.mpr fun h => hk ((hfails k).mpr ⟨hc, h⟩)
  have hcompare (h : ∀ k, k < 32 → ¬ fails k) :
      s.verifyFault off check boot a.job.tag = lineMismatchFault boot (readLine s.work off) off a.job.tag :=
    s.verifyFault_compare off check boot _ fun hc => s.lineParityFault_none off _ fun k hk => hclean hc k (h k hk)
  rw [exec_verifyReadComplete s off check a boot ha hj hs]
  refine ⟨fun w lanes hw hbefore hlanes hne => ?parity, fun p hok hsame hp => ?mismatch, fun hok hsame => ?plain⟩
  case parity =>
    have hcheck : check = true := by
      by_contra hc
      refine hne (BitVec.eq_of_getLsbD_eq fun k hk => ?_)
      rw [BitVec.getLsbD_zero, Bool.eq_false_iff, Ne, hlanes k hk, hfails]
      exact fun h => hc h.1
    have hword : s.failingWord off (4 * w) = lanes := by
      refine BitVec.eq_of_getLsbD_eq fun k hk => ?_
      rw [Bool.eq_iff_iff, s.failingWord_getLsbD off _ k hk, hlanes k hk, hfails, Nat.add_assoc]
      exact (and_iff_right hcheck).symm
    have hfault := s.lineParityFault_first off a.job.tag w hw (fun k hk => hclean hcheck k (hbefore k hk))
      (by rwa [hword])
    rw [s.verifyFault_parity off check boot _ _ hcheck hfault, hword]
    rfl
  case mismatch =>
    rw [hcompare hok, lineMismatchFault_first boot _ off _ p (fun k hk => (hsame k hk).trans (hwork k).symm)
      (by rwa [hwork]), hwork]
    rfl
  case plain =>
    rw [hcompare hok, lineMismatchFault_none boot _ off _ fun k => (hsame k).trans (hwork k).symm]
    rfl

end Sys2Proof.Machine
end

section
/-! PROOF. What a read of each register but the views gives (O22). -/

namespace Sys2Proof.Machine

/-! ### The class of an index decides what its register shows (R162) -/

theorem State.readRegister_strap (s : State) (i : Byte) (h : indexClass i = .strap) :
    s.readRegister i = strapByte s.straps (i.toNat - 0x02) := by
  unfold State.readRegister
  rw [h]

theorem State.readRegister_result (s : State) (i : Byte) (h : indexClass i = .result) :
    s.readRegister i = if i = 0x06#8 then s.rgw.result.code else s.rgw.resultArg := by
  unfold State.readRegister
  rw [h]

theorem State.readRegister_status (s : State) (i : Byte) (h : indexClass i = .status) :
    s.readRegister i = s.statusByte (i.toNat - 0x08) := by
  unfold State.readRegister
  rw [h]

theorem State.readRegister_setting (s : State) (i : Byte) (h : indexClass i = .setting) :
    s.readRegister i = s.settingByte (i.toNat - 0x18) := by
  unfold State.readRegister
  rw [h]

theorem State.readRegister_staging (s : State) (i : Byte) (h : indexClass i = .staging) :
    s.readRegister i = s.rgw.staging.byte i := by
  unfold State.readRegister
  rw [h]

theorem State.readRegister_monitor (s : State) (i : Byte) (h : indexClass i = .monitor) :
    s.readRegister i = s.monitorByte i.toNat := by
  unfold State.readRegister
  rw [h]

theorem State.readRegister_unimplemented (s : State) (i : Byte) (h : indexClass i = .unimplemented) :
    s.readRegister i = 0xFF#8 := by
  unfold State.readRegister
  rw [h]

/-! ### The status registers of the engine and the interrupt causes -/

/-- A count of up to 16 bits is its two bytes (R164). -/
theorem countByte_join (n : Nat) (h : n < 2 ^ 16) : (countByte n 1).toNat * 256 + (countByte n 0).toNat = n := by
  have hhigh : (countByte n 1).toNat = n / 256 := by
    simp [countByte, getByte, Nat.shiftRight_eq_div_pow]
    omega
  have hlow : (countByte n 0).toNat = n % 256 := by
    simp [countByte, getByte]
  omega

/-- The interrupt cause register shows the four causes, with zeros above them (R148). -/
theorem State.causes_setWidth (s : State) :
    s.causes.setWidth 8 = 0#4 ++ BitVec.ofBool (decide (s.txe.engine = .idle ∧ s.txe.queue = []))
      ++ BitVec.ofBool s.rpu.overflow ++ BitVec.ofBool (decide (s.rpu.faults ≠ []))
      ++ BitVec.ofBool (decide (s.rpu.completions ≠ [])) := by
  have hbits : ∀ a b c d : Bool,
      (BitVec.ofBool a ++ BitVec.ofBool b ++ BitVec.ofBool c ++ BitVec.ofBool d).setWidth 8
        = 0#4 ++ BitVec.ofBool a ++ BitVec.ofBool b ++ BitVec.ofBool c ++ BitVec.ofBool d := by decide
  have hquiet : s.txe.quiet = decide (s.txe.engine = .idle ∧ s.txe.queue = []) := by
    rw [Bool.eq_iff_iff]
    simp [Txe.quiet]
  have hnonempty {α : Type} (l : List α) [Decidable (l ≠ [])] : (!l.isEmpty) = decide (l ≠ []) := by
    rw [Bool.eq_iff_iff]
    simp
  unfold State.causes
  rw [hbits, hquiet, hnonempty, hnonempty]

/-! ### The monitor snapshot -/

theorem indexClass_monitor (i : Byte) (hlo : 0xA0 ≤ i.toNat) (hhi : i.toNat ≤ 0xBA) : indexClass i = .monitor := by
  revert i
  decide

/-- The nine snapshot bytes of each requester (section 11.5). -/
theorem State.monitorByte_eq (s : State) (k : Nat) (hk : k < 9) :
    s.monitorByte (0xA0 + k) = s.wpa.snapshot.hostPath.byte k
      ∧ s.monitorByte (0xA9 + k) = s.wpa.snapshot.engine.byte k
      ∧ s.monitorByte (0xB2 + k) = s.wpa.snapshot.aux.byte k := by
  unfold State.monitorByte
  refine ⟨?hostPath, ?engine, ?aux⟩
  case hostPath => rw [if_pos (by omega), Nat.add_sub_cancel_left]
  case engine => rw [if_neg (by omega), if_pos (by omega), Nat.add_sub_cancel_left]
  case aux => rw [if_neg (by omega), if_neg (by omega), Nat.add_sub_cancel_left]

/-- The bytes of one requester's counters make up its four counters, each from its lowest byte (Table 6-8). -/
theorem Counters.byte_join (n : Counters) :
    n.byte 1 ++ n.byte 0 = n.grants ∧ n.byte 4 ++ n.byte 3 ++ n.byte 2 = n.waitUnits
      ∧ n.byte 6 ++ n.byte 5 = n.forfeits ∧ n.byte 8 ++ n.byte 7 = n.preemptions :=
  ⟨getByte_join2 n.grants, getByte_join3 n.waitUnits, getByte_join2 n.forfeits, getByte_join2 n.preemptions⟩

/-- The nine registers from a requester's first show its snapshot bytes. -/
theorem State.readRegister_snapshot (s : State) (n : Counters) (at0 : Byte)
    (h : (n, at0) ∈ [(s.wpa.snapshot.hostPath, 0xA0#8), (s.wpa.snapshot.engine, 0xA9#8), (s.wpa.snapshot.aux, 0xB2#8)])
    (k : Nat) (hk : k < 9) : s.readRegister (at0 + BitVec.ofNat 8 k) = n.byte k := by
  have hat : at0.toNat = 0xA0 ∨ at0.toNat = 0xA9 ∨ at0.toNat = 0xB2 := by
    simp only [List.mem_cons, Prod.mk.injEq, List.not_mem_nil, or_false] at h
    rcases h with ⟨-, rfl⟩ | ⟨-, rfl⟩ | ⟨-, rfl⟩ <;> decide
  have hindex : (at0 + BitVec.ofNat 8 k).toNat = at0.toNat + k := by
    rw [BitVec.toNat_add, BitVec.toNat_ofNat]
    omega
  rw [s.readRegister_monitor _ (indexClass_monitor _ (by omega) (by omega)), hindex]
  obtain ⟨hhost, hengine, haux⟩ := s.monitorByte_eq k hk
  simp only [List.mem_cons, Prod.mk.injEq, List.not_mem_nil, or_false] at h
  rcases h with ⟨rfl, rfl⟩ | ⟨rfl, rfl⟩ | ⟨rfl, rfl⟩
  · exact hhost
  · exact hengine
  · exact haux

/-- Settles O22: each index by its class and its place in it; the engine's registers by the engine's state. -/
theorem registersShowTheirOwners : Obligations.RegistersShowTheirOwners := by
  intro s
  have hstatus (i : Byte) (h : indexClass i = .status) := s.readRegister_status i h
  have hsetting (i : Byte) (h : indexClass i = .setting) := s.readRegister_setting i h
  refine ⟨rfl, rfl, s.readRegister_strap 0x02#8 rfl, s.readRegister_strap 0x03#8 rfl, rfl, rfl, ?code,
    s.readRegister_result 0x07#8 rfl, hstatus 0x09#8 rfl, ?engine, hstatus 0x0D#8 rfl, hstatus 0x0E#8 rfl,
    hstatus 0x0F#8 rfl, hstatus 0x10#8 rfl, hstatus 0x11#8 rfl, (hstatus 0x12#8 rfl).trans s.causes_setWidth,
    hstatus 0x13#8 rfl, hsetting 0x18#8 rfl, hsetting 0x19#8 rfl, hsetting 0x1A#8 rfl, hsetting 0x1B#8 rfl,
    hsetting 0x1C#8 rfl, hsetting 0x1D#8 rfl, hsetting 0x1E#8 rfl, hsetting 0x1F#8 rfl, hsetting 0x20#8 rfl,
    hsetting 0x21#8 rfl, hsetting 0x22#8 rfl, hsetting 0x23#8 rfl, ?monitor, s.readRegister_staging,
    s.readRegister_unimplemented⟩
  case code =>
    rw [s.readRegister_result 0x06#8 rfl]
    cases s.rgw.result
    all_goals rfl
  case engine =>
    intro state tag done hengine
    have howner : s.txe.engine.code = state ∧ s.txe.engine.tag = tag ∧ s.txe.engine.linesDone = done := by
      rcases he : s.txe.engine with _ | a | a | r
      all_goals
        rw [he] at hengine
        obtain ⟨rfl, rfl, rfl⟩ := hengine
        exact ⟨rfl, rfl, rfl⟩
    obtain ⟨rfl, rfl, rfl⟩ := howner
    exact ⟨hstatus 0x08#8 rfl, hstatus 0x0A#8 rfl, fun hdone => countByte_join _ (by omega)⟩
  case monitor =>
    intro n at0 h
    have hbyte := s.readRegister_snapshot n at0 h
    have hfirst : s.readRegister at0 = n.byte 0 := by
      simpa using hbyte 0 (by omega)
    rw [hfirst, hbyte 1 (by omega), hbyte 2 (by omega), hbyte 3 (by omega), hbyte 4 (by omega), hbyte 5 (by omega),
      hbyte 6 (by omega), hbyte 7 (by omega), hbyte 8 (by omega)]
    exact n.byte_join

end Sys2Proof.Machine
end

section
/-! PROOF. The marking of the Written-Byte Map (R88): the positions the lanes of a write concern, and what the mask of a
line holds after the write (O47). -/

namespace Sys2Proof.Machine

/-- A position of a line is concerned where a carried lane falls on it; the first lane falls on the offset's own. -/
theorem lanePositions_getLsbD (off : Offset) (lanes : Lanes) (pos : Nat) (hpos : pos < 32) :
    (lanePositions off lanes).getLsbD pos = true ↔
      ∃ k : Nat, k < 4 ∧ carries lanes k = true ∧ pos = off.toNat % 32 + k := by
  unfold lanePositions carries
  simp only [BitVec.getLsbD_shiftLeft, BitVec.getLsbD_setWidth, Bool.and_eq_true, Bool.not_eq_true', decide_eq_true_eq,
    decide_eq_false_iff_not]
  constructor
  · rintro ⟨⟨-, hfirst⟩, -, hlane⟩
    exact ⟨pos - off.toNat % 32, BitVec.lt_of_getLsbD hlane, hlane, by omega⟩
  · rintro ⟨k, -, hlane, rfl⟩
    rw [Nat.add_sub_cancel_left]
    exact ⟨⟨hpos, by omega⟩, by omega, hlane⟩

/-- A write outside the range leaves the map as it is (R88). -/
theorem ByteMap.mark_outside (m : ByteMap) (off : Offset) (lanes : Lanes)
    (h : ¬ (m.start.toNat ≤ off.toNat ∧ off.toNat < m.start.toNat + m.lines * 32)) : m.mark off lanes = m :=
  if_neg h

/-- A write inside the range adds its positions to the mask of its line, and leaves every other mask (R88). -/
theorem ByteMap.read_mark_inside (m : ByteMap) (off : Offset) (lanes : Lanes) (line : Nat)
    (hwf : LineMasks.wf m.masks = true)
    (h : m.start.toNat ≤ off.toNat ∧ off.toNat < m.start.toNat + m.lines * 32) :
    LineMasks.read (m.mark off lanes).masks line =
      if line = (off.toNat - m.start.toNat) / 32 then LineMasks.read m.masks line ||| lanePositions off lanes
      else LineMasks.read m.masks line := by
  rw [ByteMap.mark, if_pos h, LineMasks.read_write _ _ _ _ hwf]
  split
  · next hline => rw [hline]
  · rfl

/-- Settles O47: inside the range by the line of the offset and the positions of the lanes; outside nothing changes. -/
theorem markAddsWrittenPositions : Obligations.MarkAddsWrittenPositions := by
  intro m off lanes line pos hwf hpos
  obtain ⟨hstart, hlines, -⟩ := m.mark_keeps off lanes
  refine ⟨⟨hstart, hlines⟩, ?_⟩
  rw [← lanePositions_getLsbD off lanes pos hpos]
  by_cases hin : m.start.toNat ≤ off.toNat ∧ off.toNat < m.start.toNat + m.lines * 32
  · rw [m.read_mark_inside off lanes line hwf hin]
    by_cases hline : line = (off.toNat - m.start.toNat) / 32
    · rw [if_pos hline, BitVec.getLsbD_or, Bool.or_eq_true]
      exact or_congr_right ⟨fun h => ⟨hin.1, hin.2, hline, h⟩, fun ⟨_, _, _, h⟩ => h⟩
    · rw [if_neg hline]
      exact (or_iff_left fun ⟨_, _, h, _⟩ => hline h).symm
  · rw [m.mark_outside off lanes hin]
    exact (or_iff_left fun ⟨hlow, hhigh, _⟩ => hin ⟨hlow, hhigh⟩).symm

end Sys2Proof.Machine
end

section
/-! PROOF. Whose Work Store access is in progress, said by requester, and what the settling of the port does to it. -/

namespace Sys2Proof.Machine

/-! ### The access in progress, requester by requester -/

/-- No host cycle is in its Work Store access. -/
def Hbi.OutOfAccess (h : Hbi) : Prop := ∀ c ∈ h.cycle, c.stage ≠ .workAccess

/-- No line is in its Work Store access. -/
def EngineState.OutOfAccess (e : EngineState) : Prop := ∀ a ∈ e.active, a.stage.inAccess = false

/-- The host path's part of `State.AccessLegal`: a drain has an entry to write, and the cycle is in its access exactly
where the access in progress is its own (R43, R47). -/
def Hbi.FitsAccess (h : Hbi) : Option WorkAccess → Prop
  | some .drain => h.buffer ≠ [] ∧ h.OutOfAccess
  | some (.hostRead _) => ∃ c ∈ h.cycle, c.stage = .workAccess ∧ c.dir = .read
  | some .hostWrite => ∃ c ∈ h.cycle, c.stage = .workAccess ∧ c.dir = .write
  | _ => h.OutOfAccess

/-- The engine's part: the line is in its access exactly where the access in progress is its own (R68, R84). -/
def EngineState.FitsAccess (e : EngineState) : Option WorkAccess → Prop
  | some (.lineWrite off _ _ false) =>
    ∃ a ∈ e.active, a.stage = .workWrite ∧ a.job.kind ≠ .verify ∧ off = a.workOffset a.nextLine
  | some (.lineRead off _ false) =>
    ∃ a ∈ e.active, (∃ d, a.stage = .workRead d) ∧ a.job.kind = .verify ∧ off = a.workOffset a.nextLine
  | _ => e.OutOfAccess

/-- The aux port's part: the aux cycle is in its access exactly where the access in progress is its own (R126). -/
def AuxState.FitsAccess (x : AuxState) (w : Option WorkAccess) : Prop :=
  x.inAccess = true ↔ ∃ check, w = some (.aux check)

theorem Hbi.fitsAccess_iff (h : Hbi) (w : Option WorkAccess) :
    h.FitsAccess w ↔ (match w with
        | some .drain => h.buffer ≠ []
        | some (.hostRead _) => ∃ c ∈ h.cycle, c.stage = .workAccess ∧ c.dir = .read
        | some .hostWrite => ∃ c ∈ h.cycle, c.stage = .workAccess ∧ c.dir = .write
        | _ => True)
      ∧ (∀ c ∈ h.cycle, c.stage = .workAccess →
          ∃ x ∈ w, x = .hostWrite ∨ x = .hostRead true ∨ x = .hostRead false) := by
  rcases w with _ | _ | check | _ | _ | _ | _
  case some.hostRead => cases check <;> simp [Hbi.FitsAccess]
  all_goals simp [Hbi.FitsAccess, Hbi.OutOfAccess]

theorem LineStage.isIn_lineWrite (st : LineStage) (off : Offset) (d : Line) (m : LineMask) :
    st.isIn (.lineWrite off d m false) = true ↔ st = .workWrite := by
  cases st <;> simp [LineStage.isIn]

theorem LineStage.isIn_lineRead (st : LineStage) (off : Offset) (check : Bool) :
    st.isIn (.lineRead off check false) = true ↔ ∃ d, st = .workRead d := by
  cases st <;> simp [LineStage.isIn]

/-- A line is in no access but its own, which is not dropped. -/
theorem LineStage.isIn_other (st : LineStage) (w : WorkAccess) (hw : ∀ off d m, w ≠ .lineWrite off d m false)
    (hr : ∀ off check, w ≠ .lineRead off check false) : st.isIn w = false := by
  cases st <;> rcases w with _ | _ | _ | ⟨_, _, _, _ | _⟩ | ⟨_, _, _ | _⟩ | _ <;> simp_all [LineStage.isIn]

theorem EngineState.fitsAccess_iff (e : EngineState) (w : Option WorkAccess) :
    e.FitsAccess w ↔ (match w with
        | some (.lineWrite off d m dropped) =>
          dropped = false → ∃ a ∈ e.active, a.stage.isIn (.lineWrite off d m false) = true
            ∧ a.job.kind ≠ .verify ∧ off = a.workOffset a.nextLine
        | some (.lineRead off check dropped) =>
          dropped = false → ∃ a ∈ e.active, a.stage.isIn (.lineRead off check false) = true
            ∧ a.job.kind = .verify ∧ off = a.workOffset a.nextLine
        | _ => True)
      ∧ (∀ a ∈ e.active, a.stage.inAccess = true → ∃ x ∈ w, a.stage.isIn x = true) := by
  rcases w with _ | _ | _ | _ | ⟨_, _, _, dropped⟩ | ⟨_, _, dropped⟩ | _
  case some.lineWrite =>
    cases dropped
    · simp only [EngineState.FitsAccess, LineStage.isIn_lineWrite]
      refine ⟨fun ⟨a, ha, hs, hk⟩ => ⟨fun _ => ⟨a, ha, hs, hk⟩, fun b hb _ => ⟨_, rfl, ?_⟩⟩, fun h => h.1 trivial⟩
      rwa [LineStage.isIn_lineWrite, Option.mem_unique hb ha]
    · simp [EngineState.FitsAccess, EngineState.OutOfAccess, LineStage.isIn_other]
  case some.lineRead =>
    cases dropped
    · simp only [EngineState.FitsAccess, LineStage.isIn_lineRead]
      refine ⟨fun ⟨a, ha, hs, hk⟩ => ⟨fun _ => ⟨a, ha, hs, hk⟩, fun b hb _ => ⟨_, rfl, ?_⟩⟩, fun h => h.1 trivial⟩
      rwa [LineStage.isIn_lineRead, Option.mem_unique hb ha]
    · simp [EngineState.FitsAccess, EngineState.OutOfAccess, LineStage.isIn_other]
  all_goals simp [EngineState.FitsAccess, EngineState.OutOfAccess, LineStage.isIn_other]

/-- The access in progress is legal where it fits each requester. -/
theorem State.accessLegal_iff (s : State) :
    s.AccessLegal ↔ s.hbi.FitsAccess s.wsc.access ∧ s.txe.engine.FitsAccess s.wsc.access
      ∧ s.amp.cycle.FitsAccess s.wsc.access := by
  rw [Hbi.fitsAccess_iff, EngineState.fitsAccess_iff]
  unfold State.AccessLegal AuxState.FitsAccess
  rcases s.wsc.access with _ | _ | _ | _ | _ | _ | _
  all_goals simp [WorkAccess.requester]
  all_goals tauto

/-- With no access in progress no requester is in one. -/
theorem State.accessLegal_iff_free {s : State} (ha : s.wsc.access = none) :
    s.AccessLegal ↔ s.hbi.OutOfAccess ∧ s.txe.engine.OutOfAccess ∧ s.amp.cycle.inAccess = false := by
  rw [State.accessLegal_iff, ha]
  simp [Hbi.FitsAccess, EngineState.FitsAccess, AuxState.FitsAccess]

/-! ### Lines that begin, complete and start their access -/

theorem EngineState.outOfAccess_of_inactive {e : EngineState} (h : e.active = none) : e.OutOfAccess := by
  intro a ha
  rw [h] at ha
  cases ha

theorem EngineState.outOfAccess_of_active {e : EngineState} {a : ActiveJob} (ha : e.active = some a)
    (h : a.stage.inAccess = false) : e.OutOfAccess := by
  intro b hb
  rw [Option.mem_unique hb ha]
  exact h

/-- A line that begins is in no access yet. -/
theorem State.beginLine_outOfAccess (s : State) (a : ActiveJob) : (s.beginLine a).txe.engine.OutOfAccess := by
  unfold State.beginLine
  dsimp only
  repeat' split
  all_goals exact EngineState.outOfAccess_of_active rfl rfl

theorem State.jobEnd_outOfAccess (s : State) (a : ActiveJob) (o : JobOutcome) (q : Reason) :
    (s.jobEnd a o q).txe.engine.OutOfAccess := by
  obtain ⟨-, -, -, hnone⟩ := s.jobEnd_engine a o q
  exact EngineState.outOfAccess_of_inactive hnone

/-- After a line has completed no line is in an access, whether the job goes on or ends. -/
theorem State.completeLine_outOfAccess (s : State) (r : LineResult) : (s.completeLine r).txe.engine.OutOfAccess := by
  unfold State.completeLine
  split
  · exact State.jobEnd_outOfAccess s _ _ _
  · repeat' split
    · exact State.jobEnd_outOfAccess s _ _ _
    · exact State.jobEnd_outOfAccess s _ _ _
    · exact State.beginLine_outOfAccess s _
  · rename_i hdraining hrunning
    refine EngineState.outOfAccess_of_inactive ?_
    cases he : s.txe.engine with
    | idle | retiring => rfl
    | running a => exact absurd he (hrunning a)
    | draining a => exact absurd he (hdraining a)

/-- What the completion of a line leaves: the host path, the access in progress, and all that lies outside the blocks
the engine reaches. -/
def State.SameButEngine (s t : State) : Prop := t.hbi = s.hbi ∧ t.wsc = s.wsc ∧ s.SameOutside t

theorem State.beginLine_sameButEngine (s : State) (a : ActiveJob) : s.SameButEngine (s.beginLine a) := by
  refine ⟨?_, ?_, s.beginLine_outside a⟩
  all_goals
    unfold State.beginLine
    dsimp only
    repeat' split
    all_goals rfl

theorem State.jobEnd_sameButEngine (s : State) (a : ActiveJob) (o : JobOutcome) (q : Reason) :
    s.SameButEngine (s.jobEnd a o q) := by
  refine ⟨(s.jobEnd_host a o q).1, ?_, s.jobEnd_outside a o q⟩
  unfold State.jobEnd State.retire State.offer State.settleAction
  repeat' split
  all_goals rfl

theorem State.completeLine_sameButEngine (s : State) (r : LineResult) : s.SameButEngine (s.completeLine r) :=
  State.completeLine_keeps s.SameButEngine s r ⟨rfl, rfl, by simp [State.SameOutside]⟩ s.beginLine_sameButEngine
    s.jobEnd_sameButEngine

/-- A line that waits for the Work Store starts its access, which is its own (R68). -/
theorem State.AccessLegal.startLine {s : State} (h : s.AccessLegal) (hfree : s.wsc.access = none) (st : LineStage)
    (w : WorkAccess) (hw : w.requester = .engine) (hfits : (s.startLine st w).txe.engine.FitsAccess (some w)) :
    (s.startLine st w).AccessLegal := by
  obtain ⟨hhost, -, haux⟩ := (State.accessLegal_iff_free hfree).mp h
  have hrest : s.hbi.FitsAccess (some w) ∧ s.amp.cycle.FitsAccess (some w) := by
    cases w with
    | lineWrite | lineRead => exact ⟨hhost, by simp [AuxState.FitsAccess, haux]⟩
    | drain | hostRead | hostWrite | aux => cases hw
  exact (State.accessLegal_iff _).mpr ⟨hrest.1, hfits, hrest.2⟩

theorem State.startLine_active {s : State} {a : ActiveJob} (ha : s.txe.engine.active = some a) (st : LineStage)
    (w : WorkAccess) : (s.startLine st w).txe.engine.active = some { a with stage := st } :=
  (EngineState.mapActive_active _ _).trans (congrArg (Option.map _) ha)

/-- ENGINE served with no access in progress: its access is its line's, and a skipped line leaves none (R68, R69). -/
theorem State.AccessLegal.serveEngine {s : State} (h : s.AccessLegal) (hfree : s.wsc.access = none) (n : Nat) :
    (State.serveEngine n s).AccessLegal := by
  induction n generalizing s with
  | zero => exact h
  | succ n ih =>
    unfold State.serveEngine
    split
    · rename_i a ha
      split
      · dsimp only
        split
        · rename_i d _ hverify
          exact h.startLine hfree (.workRead d) _ rfl ⟨_, State.startLine_active ha _ _, ⟨d, rfl⟩, hverify, rfl⟩
        split
        · obtain ⟨hhbi, hwsc, hamp, -⟩ := s.completeLine_sameButEngine .skipped
          have hfree' : (s.completeLine .skipped).wsc.access = none := by rw [hwsc, hfree]
          obtain ⟨hhost, -, haux⟩ := (State.accessLegal_iff_free hfree).mp h
          refine ih ((State.accessLegal_iff_free hfree').mpr ⟨?_, s.completeLine_outOfAccess _, ?_⟩) hfree'
          · rwa [hhbi]
          · rwa [hamp]
        · rename_i d _ hverify _
          exact h.startLine hfree .workWrite _ rfl ⟨_, State.startLine_active ha _ _, rfl, hverify, rfl⟩
      · exact h
    · exact h

/-! ### The settling of the port -/

/-- The guarantee after an event in which the owner may have released the port (R105). -/
def State.guaranteeAfter (s : State) (o : Requester) : GuaranteeTimer :=
  if s.wpa.guarantee = .running 0 ∧ s.wants o = false then .expired else s.wpa.guarantee

/-- An expiry at a release changes the guarantee alone. -/
theorem State.expireOnRelease_eq (s : State) (o : Requester) :
    s.expireOnRelease o = { s with wpa := { s.wpa with guarantee := s.guaranteeAfter o } } := by
  unfold State.expireOnRelease State.guaranteeAfter
  split
  all_goals rfl

/-- A property that no change of the arbiter's block touches, and that the next access of an owner that wants the port
and finds it free keeps, is kept by the settling of the port. -/
theorem State.settle_keeps_of_free (P : State → Prop) (hwpa : ∀ (s : State) (w : Wpa), P s → P { s with wpa := w })
    (hserve : ∀ (s : State) (r : Requester), P s → s.wsc.access = none → s.wants r = true → P (s.serve r)) (s : State)
    (h : P s) : P s.settle := by
  have hhandover (u : State) (o : Requester) (f : Bool) (hu : P u) : P (u.handover o f) := by
    unfold State.handover
    repeat' split
    · exact hu
    · exact hwpa _ _ (hwpa _ _ hu)
    · exact hu
  have harbitrate (n : Nat) : ∀ u, P u → P (State.arbitrate n u) := by
    induction n with
    | zero => exact fun u hu => hu
    | succ n ih =>
      intro u hu
      unfold State.arbitrate
      split
      · exact hu
      rename_i hbusy
      have hfree : u.wsc.access = none := by simpa using hbusy
      split
      · split
        · exact hu
        · exact ih _ (hwpa _ _ hu)
      · rename_i o _
        have hexpire := u.expireOnRelease_eq o
        have hv : P (u.expireOnRelease o) := hexpire ▸ hwpa u _ hu
        have hvfree : (u.expireOnRelease o).wsc.access = none := hexpire ▸ hfree
        generalize u.expireOnRelease o = v at hv hvfree
        dsimp only
        split
        · exact ih _ (hhandover _ _ _ hv)
        split
        · rename_i hwants
          exact ih _ (hserve _ o (hwpa _ _ hv) hvfree hwants.1)
        repeat' split
        · exact hv
        · exact ih _ (hhandover _ _ _ hv)
        · exact hwpa _ _ hv
        · exact hwpa _ _ hv
  exact harbitrate 8 s h

theorem State.restage_cycle {s : State} {c : HostCycle} (hc : s.hbi.cycle = some c) (st : HostStage) :
    (s.restage st).hbi.cycle = some { c with stage := st } := by
  unfold State.restage
  rw [hc]
  rfl

/-- HOST_PATH served with no access in progress: its access is a drain, or its cycle's (R43, R47, R49). -/
theorem State.AccessLegal.serveHost {s : State} (h : s.AccessLegal) (hfree : s.wsc.access = none) :
    s.serveHost.AccessLegal := by
  obtain ⟨hhost, hengine, haux⟩ := (State.accessLegal_iff_free hfree).mp h
  have hother (w : WorkAccess) (hw : w.requester = .hostPath) :
      s.txe.engine.FitsAccess (some w) ∧ s.amp.cycle.FitsAccess (some w) := by
    cases w with
    | drain | hostRead | hostWrite => exact ⟨hengine, by simp [AuxState.FitsAccess, haux]⟩
    | lineWrite | lineRead | aux => cases hw
  unfold State.serveHost
  split
  · rename_i hb
    exact (State.accessLegal_iff _).mpr ⟨⟨by rw [State.startAccess_hbi, hb]; exact nofun, hhost⟩, hother .drain rfl⟩
  split
  · rename_i c hc
    have hcycle (w : WorkAccess) :
        ((s.startAccess w).restage .workAccess).hbi.cycle = some { c with stage := .workAccess } :=
      State.restage_cycle hc .workAccess
    split
    · exact (State.accessLegal_iff _).mpr ⟨⟨_, hcycle _, rfl, ‹_›⟩, hother (.hostRead _) rfl⟩
    · rename_i hd
      have hwrite : c.dir = .write := by
        cases hdir : c.dir with
        | read => exact absurd hdir hd
        | write => rfl
      exact (State.accessLegal_iff _).mpr ⟨⟨_, hcycle _, rfl, hwrite⟩, hother .hostWrite rfl⟩
  · exact h

/-- The settling of the port starts an access of the requester it serves, or leaves the one in progress. -/
theorem State.AccessLegal.settle {s : State} (h : s.AccessLegal) : s.settle.AccessLegal := by
  refine State.settle_keeps_of_free State.AccessLegal (fun _ _ hu => hu) (fun u r hu hfree _ => ?_) s h
  cases r with
  | hostPath => exact hu.serveHost hfree
  | engine => exact hu.serveEngine hfree _
  | aux => exact hu

end Sys2Proof.Machine
end

section
/-! PROOF. The Work Store port arbiter: what it does one thing at a time, whom it grants the port, the tick of its
timers, and the usage monitor's commands (O32, O52, O53, O54). -/

namespace Sys2Proof.Machine

/-! ### The commands of the usage monitor -/

/-- Settles O32: each command's rule is its change of the monitor. -/
theorem monitorCommandsCountAndSnapshot : Obligations.MonitorCommandsCountAndSnapshot := by
  intro s c
  refine ⟨fun h => ?start, fun h => ?stop, fun h => ?snapshot⟩
  case start => exact State.command_windowWritten s c _ State.runMonitorStart _ _ _ _ h rfl rfl rfl
  case stop => exact State.command_windowWritten s c _ State.runMonitorStop _ _ _ _ h rfl rfl rfl
  case snapshot => exact State.command_windowWritten s c _ State.runSnapshotMonitor _ _ _ _ h rfl rfl rfl

/-! ### Counters -/

/-- A counter at its maximum stays, any other advances by one (R118). -/
theorem advance_toNat {n : Nat} (c : BitVec n) :
    (advance c).toNat = if c.toNat + 1 = 2 ^ n then c.toNat else c.toNat + 1 := by
  have hlt := c.isLt
  have hmax : c = BitVec.allOnes n ↔ c.toNat + 1 = 2 ^ n := by
    rw [← BitVec.toNat_inj, BitVec.toNat_allOnes]
    omega
  unfold advance
  by_cases h : c.toNat + 1 = 2 ^ n
  · rw [if_pos (hmax.mpr h), if_pos h]
  · have hone : (1#n).toNat = 1 := Nat.mod_eq_of_lt (by omega)
    rw [if_neg (hmax.not.mpr h), if_neg h, BitVec.toNat_add, hone]
    exact Nat.mod_eq_of_lt (by omega)

/-- The values of the three requesters, given one by one. -/
def PerRequester.tabulate {α : Type} (f : Requester → α) : PerRequester α :=
  { hostPath := f .hostPath, engine := f .engine, aux := f .aux }

theorem PerRequester.tabulate_get {α : Type} (p : PerRequester α) : PerRequester.tabulate p.get = p := rfl

theorem PerRequester.get_tabulate {α : Type} (f : Requester → α) (x : Requester) :
    (PerRequester.tabulate f).get x = f x := by
  cases x <;> rfl

theorem PerRequester.modify_eq {α : Type} (p : PerRequester α) (r : Requester) (f : α → α) :
    p.modify r f = PerRequester.tabulate fun x => if x = r then f (p.get x) else p.get x := by
  cases r <;> rfl

/-- Counting advances the counters of one requester, while it is on (R118). -/
theorem Wpa.tally_eq (w : Wpa) (r : Requester) (f : Counters → Counters) :
    w.tally r f = { w with
      live := PerRequester.tabulate fun x =>
        if w.counting = true ∧ x = r then f (w.live.get x) else w.live.get x } := by
  unfold Wpa.tally
  rw [PerRequester.modify_eq]
  by_cases hc : w.counting = true
  · simp [hc]
  · have hsame (x : Requester) :
        (if w.counting = true ∧ x = r then f (w.live.get x) else w.live.get x) = w.live.get x :=
      if_neg fun h => hc h.1
    simp only [if_neg hc, hsame, PerRequester.tabulate_get]

/-! ### Who wants the port -/

theorem State.wants_hostPath_iff (s : State) :
    s.wants .hostPath = true ↔ s.hbi.buffer ≠ [] ∨ ∃ c, s.hbi.cycle = some c
      ∧ (c.stage = .awaitDrain ∨ c.stage = .awaitWork ∨ c.stage = .workAccess) := by
  unfold State.wants Hbi.wantsWork
  cases s.hbi.cycle <;> simp [or_assoc]

theorem State.wants_engine_iff (s : State) :
    s.wants .engine = true ↔
      (∃ a, (s.txe.engine = .running a ∨ s.txe.engine = .draining a)
        ∧ ((∃ d, a.stage = .awaitWork d) ∨ a.stage = .workWrite ∨ ∃ d, a.stage = .workRead d))
      ∨ (∃ off d m x, s.wsc.access = some (.lineWrite off d m x))
      ∨ ∃ off k x, s.wsc.access = some (.lineRead off k x) := by
  have hline : s.txe.engine.wantsWork = true ↔ ∃ a, (s.txe.engine = .running a ∨ s.txe.engine = .draining a)
      ∧ ((∃ d, a.stage = .awaitWork d) ∨ a.stage = .workWrite ∨ ∃ d, a.stage = .workRead d) := by
    unfold EngineState.wantsWork EngineState.active
    cases s.txe.engine with
    | idle | retiring => simp
    | running a | draining a => cases hs : a.stage <;> simp [hs]
  have haccess : s.wsc.access.map WorkAccess.requester = some .engine ↔
      (∃ off d m x, s.wsc.access = some (.lineWrite off d m x))
        ∨ ∃ off k x, s.wsc.access = some (.lineRead off k x) := by
    rcases s.wsc.access with _ | _ | _ | _ | _ | _ | _ <;> simp [WorkAccess.requester]
  rw [← haccess, ← hline]
  simp [State.wants]

theorem State.wants_aux_iff (s : State) : s.wants .aux = true ↔ s.amp.areq = true ∧ s.inReset = false := by
  simp [State.wants]

/-! ### Grants and handovers -/

/-- A grant makes the requester the owner, starts its guarantee and is counted (R103, R105). -/
theorem State.grant_eq (s : State) (r : Requester) :
    s.grant r = { s with wpa := { s.wpa with
      owner := some r, guarantee := .running (s.wpa.guarantees.get r).toNat, idle := .stopped
      live := PerRequester.tabulate fun x =>
        if s.wpa.counting = true ∧ x = r then { s.wpa.live.get x with grants := advance (s.wpa.live.get x).grants }
        else s.wpa.live.get x } } := by
  unfold State.grant
  rw [Wpa.tally_eq]

/-- An owner that leaves has a forfeit counted, or a preemption where it still wants the port (R104). -/
theorem State.leave_eq (s : State) (o : Requester) (forfeit : Bool) :
    s.leave o forfeit = { s with wpa := { s.wpa with
      lastOwner := o, owner := none, guarantee := .stopped, idle := .stopped
      live := PerRequester.tabulate fun x =>
        if s.wpa.counting = true ∧ x = o then
          if forfeit = true then { s.wpa.live.get x with forfeits := advance (s.wpa.live.get x).forfeits }
          else if s.wants o = true then { s.wpa.live.get x with preemptions := advance (s.wpa.live.get x).preemptions }
          else s.wpa.live.get x
        else s.wpa.live.get x } } := by
  unfold State.leave
  simp only [Wpa.tally_eq]
  cases forfeit
  · cases s.wants o <;> simp [PerRequester.tabulate_get]
  · simp

theorem State.nextWanting_none (s : State) (last : Requester) (h : ∀ r, s.wants r = false) :
    s.nextWanting last = none :=
  List.find?_eq_none.mpr fun r _ => by simp [h r]

/-- With no owner and none that wants the port the arbiter has nothing to do. -/
theorem State.settle_unwanted (s : State) (ho : s.wpa.owner = none) (h : ∀ r, s.wants r = false) : s.settle = s := by
  unfold State.settle State.arbitrate
  rw [ho]
  simp [s.nextWanting_none _ h]

/-- With no owner the first wanting requester in ring order is granted the port (R103). -/
theorem State.arbitrate_grants (s : State) (r : Requester) (n : Nat) (ha : s.wsc.access = none)
    (ho : s.wpa.owner = none) (hr : s.FirstInRing s.wpa.lastOwner r) :
    s.arbitrate (n + 1) = (s.grant r).arbitrate n := by
  conv_lhs => unfold State.arbitrate
  rw [ho, s.nextWanting_eq _ r hr, ha]
  rfl

/-- With an owner that leaves the first wanting requester in ring order after it is granted the port (R104). -/
theorem State.handover_eq (s : State) (o r : Requester) (forfeit : Bool) (ha : s.wsc.access = none) (hne : o ≠ r)
    (hr : s.FirstInRing o r) : s.handover o forfeit = (s.leave o forfeit).grant r := by
  have hother : s.otherWants o = true := (s.otherWants_iff o).mpr ⟨r, hne.symm, hr.1⟩
  unfold State.handover
  rw [ha, hother, s.nextWanting_eq o r hr]
  rfl

/-- Settles O53: the wants by Table 6-1, and each grant and handover with the counters it advances. -/
theorem wantingRequestersGetPortInRingOrder : Obligations.WantingRequestersGetPortInRingOrder := by
  refine ⟨fun s => ⟨s.wants_hostPath_iff, s.wants_engine_iff, s.wants_aux_iff⟩, fun n c => advance_toNat c,
    fun s r n ha ho hr => ?grant, fun s ho h => s.settle_unwanted ho h, fun s o r forfeit ha hne hr => ?handover⟩
  case grant =>
    rw [s.arbitrate_grants r n ha ho hr, s.grant_eq]
    rfl
  case handover =>
    intro live
    rw [s.handover_eq o r forfeit ha hne hr, State.grant_eq, State.leave_eq]
    refine congrArg (fun l => ({ s with wpa := { s.wpa with
      owner := some r, lastOwner := o, guarantee := .running (s.wpa.guarantees.get r).toNat, idle := .stopped
      live := l } } : State)) (congrArg PerRequester.tabulate (funext fun x => ?_))
    rw [PerRequester.get_tabulate]
    dsimp only [live]
    cases hc : s.wpa.counting with
    | false => simp
    | true =>
      by_cases hxr : x = r
      · simp [hxr, hne.symm]
      · by_cases hxo : x = o
        · simp [hxo, hne]
        · simp [hxr, hxo]

/-! ### The tick -/

/-- The waits of one requester counted: its wait units advance where it waits and counting is on (R118). -/
theorem State.countWait_eq (s : State) (r : Requester) :
    s.countWait r = { s with wpa := { s.wpa with
      live := PerRequester.tabulate fun x =>
        if s.wpa.counting = true ∧ s.waiting r = true ∧ x = r then
          { s.wpa.live.get x with waitUnits := advance (s.wpa.live.get x).waitUnits }
        else s.wpa.live.get x } } := by
  unfold State.countWait
  rw [Wpa.tally_eq]
  cases hw : s.waiting r <;> simp [PerRequester.tabulate_get]

theorem State.waiting_iff (s : State) (r : Requester) :
    s.waiting r = true ↔ s.wants r = true ∧ s.wpa.owner ≠ some r := by
  simp [State.waiting]

/-- The waits of every requester counted (R179). -/
theorem State.countWaits_eq (s : State) :
    s.countWaits = { s with wpa := { s.wpa with
      live := PerRequester.tabulate fun x =>
        if s.wpa.counting = true ∧ s.wants x = true ∧ s.wpa.owner ≠ some x then
          { s.wpa.live.get x with waitUnits := advance (s.wpa.live.get x).waitUnits }
        else s.wpa.live.get x } } := by
  unfold State.countWaits
  have hwaiting (l : PerRequester Counters) (r : Requester) :
      State.waiting { s with wpa := { s.wpa with live := l } } r = s.waiting r := rfl
  rw [State.countWait_eq, State.countWait_eq, State.countWait_eq]
  refine congrArg (fun l => ({ s with wpa := { s.wpa with live := l } } : State))
    (congrArg PerRequester.tabulate (funext fun x => ?_))
  simp only [PerRequester.get_tabulate, hwaiting, State.waiting_iff]
  cases x <;> simp

/-- A tick of the guarantee timer (R105). -/
theorem GuaranteeTimer.tick_eq (g : GuaranteeTimer) :
    g.tick = match g with
      | .running 1 => .expired
      | .running (n + 2) => .running (n + 1)
      | other => other := by
  rcases g with _ | (_ | _ | n) | _ <;> rfl

/-- A tick of an idle timer that is not at 0 (R108). -/
theorem IdleTimer.tick_eq (i : IdleTimer) :
    i.tick = match i with
      | .running n => .running (n - 1)
      | .stopped => .stopped := by
  rcases i with _ | (_ | n) <;> rfl

/-- The state of a tick before the port is handed over or settled: the waits counted, the timers advanced. -/
def State.ticked (s : State) : State :=
  { s.countWaits with wpa := { s.countWaits.wpa with
      guarantee := s.countWaits.wpa.guarantee.tick, idle := s.countWaits.wpa.idle.tick } }

/-- What a tick changes before the port is settled: the counters and the timers of the arbiter (R179). -/
theorem State.ticked_eq (s : State) :
    s.ticked = { s with wpa := { s.wpa with
      live := PerRequester.tabulate fun x =>
        if s.wpa.counting = true ∧ s.wants x = true ∧ s.wpa.owner ≠ some x then
          { s.wpa.live.get x with waitUnits := advance (s.wpa.live.get x).waitUnits }
        else s.wpa.live.get x
      guarantee := s.wpa.guarantee.tick
      idle := s.wpa.idle.tick } } := by
  unfold State.ticked
  rw [State.countWaits_eq]

/-- A tick forfeits the port where the idle timer has reached its length, and otherwise only settles it (R108, R179). -/
theorem State.tick_cases (s : State) :
    (∃ o, s.wpa.idle.tick = .running 0 ∧ s.wpa.owner = some o ∧ s.tick = (s.ticked.handover o true).settle)
      ∨ ((s.wpa.idle.tick = .running 0 → s.wpa.owner = none) ∧ s.tick = s.ticked.settle) := by
  have hidle : s.ticked.wpa.idle = s.wpa.idle.tick := by rw [State.ticked_eq]
  have howner : s.ticked.wpa.owner = s.wpa.owner := by rw [State.ticked_eq]
  rw [← hidle, ← howner]
  unfold State.tick
  dsimp only
  split
  · rename_i o hi ho
    exact .inl ⟨o, hi, ho, rfl⟩
  · rename_i hnot
    exact .inr ⟨fun hi => Option.eq_none_iff_forall_ne_some.mpr fun o ho => hnot o hi ho, rfl⟩

/-- An idle timer that is not at 0 reaches its length at its last tick. -/
theorem IdleTimer.tick_eq_zero_iff {i : IdleTimer} (h : i ≠ .running 0) : i.tick = .running 0 ↔ i = .running 1 := by
  rcases i with _ | (_ | n)
  · exact iff_of_false nofun nofun
  · exact absurd rfl h
  · simp [IdleTimer.tick]

/-- Settles O54: each tick counts the waits of the requesters that wait, then advances the timers. -/
theorem tickCountsWaitsThenExpires : Obligations.TickCountsWaitsThenExpires := by
  intro s hidle live u t
  have hu : s.ticked = u := by
    rw [State.ticked_eq, GuaranteeTimer.tick_eq, IdleTimer.tick_eq]
    rfl
  have htick : s.tick.drive = t := by
    have hdue := IdleTimer.tick_eq_zero_iff hidle
    rcases s.tick_cases with ⟨o, hi, ho, heq⟩ | ⟨hnone, heq⟩
    · simp only [t, heq, hu, hdue.mp hi, ho]
    · rw [heq, hu]
      dsimp only [t]
      split
      · rename_i o hi ho
        rw [hnone (hdue.mpr hi)] at ho
        cases ho
      · rfl
  have ht : s.tick.done = .next t := congrArg Host.Outcome.next htick
  exact ⟨ht, fun h => (if_pos h).trans ht, fun h => (if_pos h).trans ht⟩

/-! ### The arbiter's work, one thing at a time -/

/-- What settling the port can change of a state (R100 to R108): the blocks it serves, with all else as it was. -/
structure Settling where
  cycle         : Option HostCycle
  timerRunning  : Bool
  pin           : Option (Fin 64)
  routes        : Vector RouteEntry 64
  engine        : EngineState
  map           : Option ByteMap
  access        : Option WorkAccess
  owner         : Option Requester
  lastOwner     : Requester
  guarantee     : GuaranteeTimer
  idle          : IdleTimer
  live          : PerRequester Counters
  accessor      : Option BootAccess
  engineRequest : Option Offset
  completions   : List CompletionRecord

/-- The state with what settling can change replaced. -/
def State.settledAs (s : State) (p : Settling) : State :=
  { s with
    hbi := { s.hbi with cycle := p.cycle, timerRunning := p.timerRunning }
    rtu := { s.rtu with pin := p.pin, routes := p.routes }
    txe := { s.txe with engine := p.engine, map := p.map }
    wsc := { s.wsc with access := p.access }
    wpa := { s.wpa with
      owner := p.owner, lastOwner := p.lastOwner, guarantee := p.guarantee, idle := p.idle, live := p.live }
    bsc := { s.bsc with accessor := p.accessor, engineRequest := p.engineRequest }
    rpu := { s.rpu with completions := p.completions } }

/-- What settling can change, as it is in a state. -/
def State.settling (s : State) : Settling :=
  { cycle := s.hbi.cycle, timerRunning := s.hbi.timerRunning, pin := s.rtu.pin, routes := s.rtu.routes
    engine := s.txe.engine, map := s.txe.map, access := s.wsc.access, owner := s.wpa.owner
    lastOwner := s.wpa.lastOwner, guarantee := s.wpa.guarantee, idle := s.wpa.idle, live := s.wpa.live
    accessor := s.bsc.accessor, engineRequest := s.bsc.engineRequest, completions := s.rpu.completions }

/-- `t` is `s` but for what settling can change: the two are the same once that is replaced. -/
def State.SettlesTo (s t : State) : Prop := ∀ p, t.settledAs p = s.settledAs p

theorem State.SettlesTo.eq {s t : State} (h : s.SettlesTo t) : t = s.settledAs t.settling := h t.settling

theorem State.SettlesTo.beginLine {s t : State} (h : s.SettlesTo t) (a : ActiveJob) : s.SettlesTo (t.beginLine a) := by
  unfold State.beginLine
  dsimp only
  repeat' split
  all_goals exact h

theorem State.SettlesTo.jobEnd {s t : State} (h : s.SettlesTo t) (a : ActiveJob) (o : JobOutcome) (q : Reason) :
    s.SettlesTo (t.jobEnd a o q) := by
  unfold State.jobEnd State.retire State.offer
  rw [State.settleAction_eq]
  split
  all_goals exact h

theorem State.SettlesTo.serve {s t : State} (h : s.SettlesTo t) (r : Requester) : s.SettlesTo (t.serve r) := by
  cases r with
  | hostPath =>
    show s.SettlesTo t.serveHost
    unfold State.serveHost
    repeat' split
    all_goals exact h
  | engine =>
    exact State.serveEngine_keeps s.SettlesTo (fun _ _ _ hu => hu)
      (fun u hu => State.completeLine_keeps s.SettlesTo u .skipped hu hu.beginLine hu.jobEnd) _ t h
  | aux => exact h

theorem State.SettlesTo.grant {s t : State} (h : s.SettlesTo t) (r : Requester) : s.SettlesTo (t.grant r) := by
  rw [State.grant_eq]
  exact h

theorem State.SettlesTo.handover {s t : State} (h : s.SettlesTo t) (o : Requester) (f : Bool) :
    s.SettlesTo (t.handover o f) := by
  have hleave : s.SettlesTo (t.leave o f) := by
    rw [State.leave_eq]
    exact h
  unfold State.handover
  repeat' split
  · exact h
  · exact hleave.grant _
  · exact h

/-- Settling changes nothing but the blocks it serves. -/
theorem State.settlesTo_settle (s : State) : s.SettlesTo s.settle := by
  refine State.arbitrate_keeps s.SettlesTo (fun _ r ht => ht.grant r) (fun _ o f ht => ht.handover o f)
    (fun t o ht => ?_) (fun _ r ht => ht.serve r) (fun _ _ ht => ht) 8 s fun _ => rfl
  rw [State.expireOnRelease_eq]
  exact ht

/-- The host cycle stands as before, or its access has started and its timer is stopped (R41). -/
def State.HostStarted (s t : State) : Prop :=
  t.hbi.cycle = s.hbi.cycle
    ∨ (t.hbi.cycle = s.hbi.cycle.map (fun c => { c with stage := .workAccess }) ∧ t.hbi.timerRunning = false)

/-- Of the host cycle settling changes its state alone, and only to start its access. -/
theorem State.hostStarted_settle (s : State) : s.HostStarted s.settle := by
  refine State.settle_keeps_of_free s.HostStarted (fun _ _ ht => ht) (fun t r ht _ _ => ?_) s (.inl rfl)
  cases r with
  | hostPath =>
    show s.HostStarted t.serveHost
    unfold State.serveHost
    split
    · exact ht
    split
    · refine .inr ⟨?_, rfl⟩
      show t.hbi.cycle.map _ = _
      rcases ht with hc | ⟨hc, -⟩
      · rw [hc]
      · rw [hc, Option.map_map]
        rfl
    · exact ht
  | engine =>
    refine State.serveEngine_keeps s.HostStarted (fun _ _ _ hu => hu) (fun u hu => ?_) _ t ht
    obtain ⟨hhbi, -⟩ := u.completeLine_sameButEngine .skipped
    unfold State.HostStarted
    rw [hhbi]
    exact hu
  | aux => exact ht

/-! ### An owner with no access in progress -/

/-- The state after an event in which the owner may have released the port, a guarantee of 0 having expired. -/
def State.afterRelease (s : State) (o : Requester) : State :=
  { s with wpa := { s.wpa with guarantee := s.guaranteeAfter o } }

/-- What an owner with no access in progress does next: it is handed over, served, left idle, or parked (R102, R105 to
R108). -/
theorem State.arbitrate_owner (s : State) (o : Requester) (n : Nat) (ha : s.wsc.access = none)
    (ho : s.wpa.owner = some o) :
    s.arbitrate (n + 1) =
      if s.guaranteeAfter o = .expired ∧ s.otherWants o = true then ((s.afterRelease o).handover o false).arbitrate n
      else if s.wants o = true ∧ o ≠ .aux then ((s.afterRelease o).stopIdle.serve o).arbitrate n
      else if s.otherWants o = true ∧ s.guaranteeAfter o ≠ .stopped then
        if s.wpa.idle ≠ .stopped then s.afterRelease o
        else if s.wpa.idleWindows.get o = 0#8 then ((s.afterRelease o).handover o true).arbitrate n
        else { s.afterRelease o with wpa := { (s.afterRelease o).wpa with
          idle := .running (s.wpa.idleWindows.get o).toNat } }
      else (s.afterRelease o).stopIdle := by
  conv_lhs => unfold State.arbitrate
  rw [ha, ho]
  dsimp only
  rw [State.expireOnRelease_eq]
  rfl

/-- An expired guarantee hands the port over where another requester wants it (R106). -/
theorem State.arbitrate_handsOver {s : State} {o : Requester} (n : Nat) (ha : s.wsc.access = none)
    (ho : s.wpa.owner = some o) (hg : s.guaranteeAfter o = .expired) (hw : s.otherWants o = true) :
    s.arbitrate (n + 1) = ((s.afterRelease o).handover o false).arbitrate n := by
  rw [s.arbitrate_owner o n ha ho, if_pos ⟨hg, hw⟩]

/-- HOST_PATH or ENGINE that wants the port is served, with the idle timer stopped (R102, R107). -/
theorem State.arbitrate_serves {s : State} {o : Requester} (n : Nat) (ha : s.wsc.access = none)
    (ho : s.wpa.owner = some o) (hg : ¬ (s.guaranteeAfter o = .expired ∧ s.otherWants o = true))
    (hw : s.wants o = true ∧ o ≠ .aux) :
    s.arbitrate (n + 1) = ((s.afterRelease o).stopIdle.serve o).arbitrate n := by
  rw [s.arbitrate_owner o n ha ho, if_neg hg, if_pos hw]

/-- An idle owner that another requester waits for has its idle timer running, or forfeits at once (R108). -/
theorem State.arbitrate_idles {s : State} {o : Requester} (n : Nat) (ha : s.wsc.access = none)
    (ho : s.wpa.owner = some o) (hw : ¬ (s.wants o = true ∧ o ≠ .aux)) (hother : s.otherWants o = true)
    (he : s.guaranteeAfter o ≠ .expired) (hs : s.guaranteeAfter o ≠ .stopped) :
    s.arbitrate (n + 1) =
      if s.wpa.idle ≠ .stopped then s.afterRelease o
      else if s.wpa.idleWindows.get o = 0#8 then ((s.afterRelease o).handover o true).arbitrate n
      else { s.afterRelease o with wpa := { (s.afterRelease o).wpa with
        idle := .running (s.wpa.idleWindows.get o).toNat } } := by
  rw [s.arbitrate_owner o n ha ho, if_neg fun h => he h.1, if_neg hw, if_pos ⟨hother, hs⟩]

/-- An idle owner that nobody waits for parks on the port (R107). -/
theorem State.arbitrate_parks {s : State} {o : Requester} (n : Nat) (ha : s.wsc.access = none)
    (ho : s.wpa.owner = some o) (hw : ¬ (s.wants o = true ∧ o ≠ .aux)) (hother : ¬ s.otherWants o = true) :
    s.arbitrate (n + 1) = (s.afterRelease o).stopIdle := by
  rw [s.arbitrate_owner o n ha ho, if_neg fun h => hother h.2, if_neg hw, if_neg fun h => hother h.1]

theorem State.serveHost_drain {s : State} (hb : s.hbi.buffer ≠ []) : s.serveHost = s.startAccess .drain := by
  unfold State.serveHost
  cases h : s.hbi.buffer with
  | nil => exact absurd h hb
  | cons => rfl

theorem State.serveHost_cycle {s : State} {c : HostCycle} (hb : s.hbi.buffer = []) (hc : s.hbi.cycle = some c) :
    s.serveHost
      = (s.startAccess (if c.dir = .read then .hostRead s.wsc.parityCheck else .hostWrite)).restage .workAccess := by
  unfold State.serveHost
  rw [hb, hc]

/-- Settles O52: the owner's case decides what the arbiter does next, and each thing it does changes only what settling
can change. -/
theorem settlingServesOwnersAndKeepsTheRest : Obligations.SettlingServesOwnersAndKeepsTheRest := by
  refine ⟨fun s => rfl, fun s o n ha ho => ?owner, fun s => ?frame⟩
  case owner =>
    intro other busy g u timed started window
    have hother : s.otherWants o = true ↔ other := s.otherWants_iff o
    have hbusy : (s.wants o = true ∧ o ≠ .aux) ↔ busy := and_comm
    have hwindow : s.wpa.idleWindows.get o = window := by cases o <;> rfl
    have hserved (hg : ¬ (other ∧ g = .expired)) (hb : busy) :
        s.arbitrate (n + 1) = ((s.afterRelease o).stopIdle.serve o).arbitrate n :=
      State.arbitrate_serves n ha ho (fun h => hg ⟨hother.mp h.2, h.1⟩) (hbusy.mpr hb)
    refine ⟨fun h hg => ?handsOver, fun hg hhost hb => ⟨fun hd => ?drain, fun c hd hc => ?hostAccess⟩,
      fun hg hengine hb => ?serves, fun hb h he hs => ?idles, fun hb h => ?parks⟩
    case handsOver => exact State.arbitrate_handsOver n ha ho hg (hother.mpr h)
    case drain =>
      subst hhost
      rw [hserved hg hb]
      show State.arbitrate n (State.serveHost _) = _
      rw [State.serveHost_drain (by exact hd), State.arbitrate_busy]
      · rfl
      · simp
    case hostAccess =>
      subst hhost
      rw [hserved hg hb]
      show State.arbitrate n (State.serveHost _) = _
      rw [State.serveHost_cycle (c := c) (by exact hd) (by exact hc), State.arbitrate_busy]
      · show ({ s with
          hbi := { s.hbi with cycle := s.hbi.cycle.map _, timerRunning := false }, wsc := _, wpa := _ } : State) = _
        rw [hc]
        rfl
      · simp
    case serves =>
      subst hengine
      exact hserved hg hb
    case idles =>
      have hidles := State.arbitrate_idles n ha ho (hbusy.not.mpr hb) (hother.mpr h) he hs
      rw [hwindow] at hidles
      refine ⟨fun hi => ?goesOn, fun hi hz => ?forfeits, fun hi hz => ?starts⟩
      case goesOn => exact hidles.trans (if_pos hi)
      case forfeits => exact hidles.trans ((if_neg (by simp [hi])).trans (if_pos hz))
      case starts => exact hidles.trans ((if_neg (by simp [hi])).trans (if_neg hz))
    case parks => exact State.arbitrate_parks n ha ho (hbusy.not.mpr hb) (hother.not.mpr h)
  case frame =>
    intro t
    refine ⟨s.settlesTo_settle.eq, fun b => ?routes, s.settle_busy, s.hostStarted_settle⟩
    obtain ⟨m, hm⟩ := s.settle_routes b
    show s.settle.rtu.routes[b] = { s.rtu.routes[b] with mode := s.settle.rtu.routes[b].mode }
    rw [hm]

end Sys2Proof.Machine
end

section
/-! PROOF. The Work Store's accesses, its contents and the outputs over one command (O3, O5, O12): what each operation
does to whose access is in progress, and every command as a run of them. -/

namespace Sys2Proof.Machine

/-! ### What a command keeps of the Work Store side -/

/-- The Work Store access in progress, the aux cycle and what RESET holds empty are legal (O12). -/
def State.WorkLegal (s : State) : Prop := s.AccessLegal ∧ s.AuxLegal ∧ s.ResetLegal

/-- The Work Store's bytes and parity bits stay as they are stored. -/
def State.SameStore (s v : State) : Prop := v.work = s.work ∧ v.workParity = s.workParity

theorem State.Consistent.workLegal {s : State} (h : s.Consistent) : s.WorkLegal := by
  obtain ⟨-, -, -, -, haccess, -, haux, hreset, -⟩ := h
  exact ⟨haccess, haux, hreset⟩

/-- Outside RESET there is nothing that RESET holds empty. -/
theorem State.workLegal_of_running {s : State} (hr : s.inReset = false) (h : s.AccessLegal) (haux : s.AuxLegal) :
    s.WorkLegal :=
  ⟨h, haux, fun hin => by simp [hr] at hin⟩

theorem State.WorkLegal.access {s : State} (h : s.WorkLegal) : s.AccessLegal := h.1

theorem State.WorkLegal.aux {s : State} (h : s.WorkLegal) : s.AuxLegal := h.2.1

theorem State.WorkLegal.reset {s : State} (h : s.WorkLegal) : s.ResetLegal := h.2.2

/-- A state in which something is held or in progress is out of RESET. -/
theorem State.WorkLegal.running {s : State} (h : s.WorkLegal)
    (hne : ¬ (s.hbi.cycle = none ∧ s.txe = defaultTxe ∧ s.wsc.access = none ∧ s.wpa.owner = none
      ∧ s.bsc.accessor = none ∧ s.amp.cycle = .noCycle)) : s.inReset = false := by
  refine Bool.eq_false_iff.mpr fun hin => hne ?_
  obtain ⟨hcycle, -, htxe, haccess, howner, haccessor, haux, -⟩ := h.reset hin
  exact ⟨hcycle, htxe, haccess, howner, haccessor, haux⟩

theorem State.WorkLegal.running_of_cycle {s : State} (h : s.WorkLegal) {c : HostCycle} (hc : s.hbi.cycle = some c) :
    s.inReset = false :=
  h.running (by simp [hc])

theorem State.WorkLegal.running_of_access {s : State} (h : s.WorkLegal) {w : WorkAccess} (ha : s.wsc.access = some w) :
    s.inReset = false :=
  h.running (by simp [ha])

theorem State.WorkLegal.running_of_owner {s : State} (h : s.WorkLegal) {o : Requester} (ho : s.wpa.owner = some o) :
    s.inReset = false :=
  h.running (by simp [ho])

/-- What the legality of the accesses outside RESET stands in, and the Work Store. -/
structure Dock where
  buffer     : List PostEntry
  cycle      : Option HostCycle
  active     : Option ActiveJob
  access     : Option WorkAccess
  aux        : AuxState
  astb       : Bool
  inReset    : Bool
  work       : List Host.Cell
  workParity : List (Nat × Bool)

/-- The dock of a state. -/
def State.dock (s : State) : Dock :=
  { buffer := s.hbi.buffer, cycle := s.hbi.cycle, active := s.txe.engine.active, access := s.wsc.access
    aux := s.amp.cycle, astb := s.amp.astb, inReset := s.inReset, work := s.work, workParity := s.workParity }

theorem State.sameStore_of_dock {s v : State} (e : v.dock = s.dock) : s.SameStore v :=
  ⟨congrArg Dock.work e, congrArg Dock.workParity e⟩

theorem State.WorkLegal.of_dock {s v : State} (h : s.WorkLegal) (e : v.dock = s.dock) (hr : s.inReset = false) :
    v.WorkLegal := by
  obtain ⟨haccess, haux, -⟩ := h
  simp only [State.dock, Dock.mk.injEq] at e
  obtain ⟨hbuffer, hcycle, hactive, hwork, hamp, hastb, hin, -⟩ := e
  refine State.workLegal_of_running (hin.trans hr) ?_ ?_
  · unfold State.AccessLegal at haccess ⊢
    rw [hbuffer, hcycle, hactive, hwork, hamp]
    exact haccess
  · unfold State.AuxLegal at haux ⊢
    rw [hamp, hastb]
    exact haux

/-- A change of the Work Store's contents touches no access. -/
theorem ButWork.workLegal {s v : State} (h : ButWork s v) (hs : s.WorkLegal) : v.WorkLegal := by
  unfold ButWork at h
  rw [h]
  exact hs

/-! ### The settling of the port -/

theorem State.SameStore.settle {s v : State} (h : s.SameStore v) : s.SameStore v.settle := by
  obtain ⟨-, -, -, -, -, -, -, hwork, hparity, -⟩ := v.settle_outside
  exact ⟨hwork.trans h.1, hparity.trans h.2⟩

/-- The port is settled outside RESET, and has nothing to settle while RESET is asserted (R112). -/
theorem State.WorkLegal.settle {s : State} (h : s.WorkLegal) : s.settle.WorkLegal := by
  obtain ⟨haccess, haux, hreset⟩ := id h
  by_cases hin : s.inReset = true
  · obtain ⟨hcycle, hbuffer, htxe, hfree, howner, -⟩ := hreset hin
    have hunwanted (r : Requester) : s.wants r = false := by
      cases r <;> simp [State.wants, Hbi.wantsWork, EngineState.wantsWork, EngineState.active, defaultTxe, *]
    rwa [s.settle_unwanted howner hunwanted]
  · obtain ⟨hamp, -, -, -, hkept, -⟩ := s.settle_outside
    refine State.workLegal_of_running (by rw [hkept]; simpa using hin) haccess.settle ?_
    unfold State.AuxLegal
    rw [hamp]
    exact haux

/-! ### Whose access is in progress -/

theorem Hbi.FitsAccess.of_outOfAccess {x y : Hbi} {w : Option WorkAccess} (h : x.FitsAccess w) (hx : x.OutOfAccess)
    (hy : y.OutOfAccess) (hb : x.buffer ≠ [] → y.buffer ≠ []) : y.FitsAccess w := by
  rcases w with _ | _ | _ | _ | _ | _ | _
  case some.drain => exact ⟨hb h.1, hy⟩
  case some.hostRead | some.hostWrite =>
    obtain ⟨c, hc, hs, -⟩ := h
    exact absurd hs (hx c hc)
  all_goals exact hy

theorem EngineState.FitsAccess.of_outOfAccess {x y : EngineState} {w : Option WorkAccess} (h : x.FitsAccess w)
    (hx : x.OutOfAccess) (hy : y.OutOfAccess) : y.FitsAccess w := by
  rcases w with _ | _ | _ | _ | ⟨_, _, _, _ | _⟩ | ⟨_, _, _ | _⟩ | _
  case some.lineWrite.false =>
    obtain ⟨a, ha, hs, -⟩ := h
    exact absurd (hx a ha) (by simp [hs, LineStage.inAccess])
  case some.lineRead.false =>
    obtain ⟨a, ha, ⟨d, hs⟩, -⟩ := h
    exact absurd (hx a ha) (by simp [hs, LineStage.inAccess])
  all_goals exact hy

/-- Only the requester whose access is in progress is in it. -/
theorem State.AccessLegal.others {s : State} (h : s.AccessLegal) {w : WorkAccess} (ha : s.wsc.access = some w) :
    (w.requester ≠ .hostPath ∨ w = .drain → s.hbi.OutOfAccess) ∧ (w.requester ≠ .engine → s.txe.engine.OutOfAccess)
      ∧ (w.requester ≠ .aux → s.amp.cycle.inAccess = false) := by
  obtain ⟨hhost, hengine, haux⟩ := s.accessLegal_iff.mp h
  rw [ha] at hhost hengine haux
  refine ⟨fun hw => ?_, fun hw => ?_, fun hw => ?_⟩
  · cases w <;> simp_all [WorkAccess.requester, Hbi.FitsAccess]
  · cases w <;> simp_all [WorkAccess.requester, EngineState.FitsAccess]
  · cases w <;> simp_all [WorkAccess.requester, AuxState.FitsAccess]

/-- A line access that ENGINE_RESET dropped is no line's (R84). -/
theorem State.AccessLegal.dropped {s : State} (h : s.AccessLegal) {w : WorkAccess} (ha : s.wsc.access = some w)
    (hw : w.drop = w) : s.txe.engine.OutOfAccess := by
  obtain ⟨-, hengine, -⟩ := s.accessLegal_iff.mp h
  rw [ha] at hengine
  cases w with
  | lineWrite | lineRead =>
    simp only [WorkAccess.drop, WorkAccess.lineWrite.injEq, WorkAccess.lineRead.injEq, true_and] at hw
    subst hw
    exact hengine
  | drain | hostRead | hostWrite | aux => exact hengine

/-! ### Changes of one requester -/

/-- The host path may have changed; the access in progress and the other requesters stay. -/
def State.HostChanges (s v : State) : Prop :=
  v.wsc.access = s.wsc.access ∧ v.txe.engine = s.txe.engine ∧ v.amp = s.amp ∧ v.inReset = s.inReset

/-- The engine may have changed; the access in progress and the other requesters stay. -/
def State.EngineChanges (s v : State) : Prop :=
  v.wsc.access = s.wsc.access ∧ v.hbi = s.hbi ∧ v.amp = s.amp ∧ v.inReset = s.inReset

/-- A host cycle that is in no access may go on to what is no access, or end. -/
theorem State.WorkLegal.hostChanges {s v : State} (h : s.WorkLegal) (hr : s.inReset = false) (e : s.HostChanges v)
    (hs : s.hbi.OutOfAccess) (hv : v.hbi.OutOfAccess) (hb : s.hbi.buffer ≠ [] → v.hbi.buffer ≠ []) : v.WorkLegal := by
  obtain ⟨haccess, haux, -⟩ := h
  obtain ⟨hwork, hengine, hamp, hin⟩ := e
  obtain ⟨hhost, hline, hcycle⟩ := s.accessLegal_iff.mp haccess
  refine State.workLegal_of_running (hin.trans hr) (v.accessLegal_iff.mpr ?_) ?_
  · rw [hwork, hengine, hamp]
    exact ⟨hhost.of_outOfAccess hs hv hb, hline, hcycle⟩
  · unfold State.AuxLegal
    rw [hamp]
    exact haux

/-- A line that is in no access may go on to what is no access, or complete. -/
theorem State.WorkLegal.engineChanges {s v : State} (h : s.WorkLegal) (hr : s.inReset = false) (e : s.EngineChanges v)
    (hs : s.txe.engine.OutOfAccess) (hv : v.txe.engine.OutOfAccess) : v.WorkLegal := by
  obtain ⟨haccess, haux, -⟩ := h
  obtain ⟨hwork, hhbi, hamp, hin⟩ := e
  obtain ⟨hhost, hline, hcycle⟩ := s.accessLegal_iff.mp haccess
  refine State.workLegal_of_running (hin.trans hr) (v.accessLegal_iff.mpr ?_) ?_
  · rw [hwork, hhbi, hamp]
    exact ⟨hhost, hline.of_outOfAccess hs hv, hcycle⟩
  · unfold State.AuxLegal
    rw [hamp]
    exact haux

/-- With the port free and no requester in an access all is legal. -/
theorem State.workLegal_of_free {s : State} (hr : s.inReset = false) (ha : s.wsc.access = none)
    (hhost : s.hbi.OutOfAccess) (hengine : s.txe.engine.OutOfAccess) (hcycle : s.amp.cycle.inAccess = false)
    (haux : s.AuxLegal) : s.WorkLegal :=
  State.workLegal_of_running hr ((State.accessLegal_iff_free ha).mpr ⟨hhost, hengine, hcycle⟩) haux

theorem Hbi.outOfAccess_of_free {x : Hbi} (h : x.cycle = none) : x.OutOfAccess := by
  intro c hc
  rw [h] at hc
  cases hc

theorem Hbi.outOfAccess_of_cycle {x : Hbi} {c : HostCycle} (hc : x.cycle = some c) (h : c.stage ≠ .workAccess) :
    x.OutOfAccess := by
  intro d hd
  rwa [Option.mem_unique hd hc]

/-! ### Shared operations -/

theorem EngineState.mapActive_outOfAccess (e : EngineState) {st : LineStage} (h : st.inAccess = false) :
    (e.mapActive fun a => { a with stage := st }).OutOfAccess := by
  intro a ha
  rw [EngineState.mapActive_active] at ha
  obtain ⟨b, -, rfl⟩ := Option.map_eq_some_iff.mp ha
  exact h

theorem State.bootNext_sameStore (s : State) : s.SameStore s.bootNext := by
  unfold State.bootNext
  repeat' split
  all_goals exact ⟨rfl, rfl⟩

/-- The Boot Store port passes on to a host cycle and a line that are in no Work Store access (R113). -/
theorem State.WorkLegal.bootNext {s : State} (h : s.WorkLegal) (hr : s.inReset = false)
    (hhost : s.bsc.hostRequest ≠ none → s.hbi.OutOfAccess)
    (hengine : s.bsc.engineRequest ≠ none → s.txe.engine.OutOfAccess) : s.bootNext.WorkLegal := by
  unfold State.bootNext
  split
  · rename_i off hq
    have hout : (s.restage .bootAccess).hbi.OutOfAccess := by
      intro c hc
      obtain ⟨d, -, rfl⟩ := Option.map_eq_some_iff.mp hc
      exact nofun
    exact h.hostChanges hr ⟨rfl, rfl, rfl, rfl⟩ (hhost (by simp [hq])) hout id
  split
  · rename_i off hq
    exact h.engineChanges hr ⟨rfl, rfl, rfl, rfl⟩ (hengine (by simp [hq]))
      (s.txe.engine.mapActive_outOfAccess (st := .bootRead) rfl)
  · exact h.of_dock rfl hr

/-- The engine asks for the Boot Store with a line that is in no Work Store access (R67). -/
theorem State.BootPortLegal.outOfAccess {s : State} (h : s.BootPortLegal) (hq : s.bsc.engineRequest ≠ none) :
    s.txe.engine.OutOfAccess := by
  obtain ⟨-, -, hrequest, -⟩ := h
  intro a ha
  rw [hrequest, ha] at hq
  by_cases hs : a.stage = .awaitBoot
  · rw [hs]
    rfl
  · exact absurd (if_neg hs) hq

theorem State.SameOutside.sameStore {s t : State} (h : s.SameOutside t) : s.SameStore t := by
  obtain ⟨-, -, -, -, -, -, -, hwork, hparity, -⟩ := h
  exact ⟨hwork, hparity⟩

theorem State.SameStore.trans {s t u : State} (h : s.SameStore t) (k : t.SameStore u) : s.SameStore u :=
  ⟨k.1.trans h.1, k.2.trans h.2⟩

/-- A state in which the access of the line in progress has ended keeps all legal when the line completes. -/
theorem State.WorkLegal.completeLine {s : State} (hr : s.inReset = false) (ha : s.wsc.access = none)
    (hhost : s.hbi.OutOfAccess) (hcycle : s.amp.cycle.inAccess = false) (haux : s.AuxLegal) (r : LineResult) :
    (s.completeLine r).WorkLegal := by
  obtain ⟨hhbi, hwsc, hamp, -, -, -, hin, -⟩ := s.completeLine_sameButEngine r
  refine State.workLegal_of_free (hin.trans hr) ?_ ?_ (s.completeLine_outOfAccess r) ?_ ?_
  · rw [hwsc, ha]
  · rwa [hhbi]
  · rwa [hamp]
  · unfold State.AuxLegal
    rwa [hamp]

/-! ### What every command answers -/

/-- `v` holds the Work Store of `s`, and its accesses are legal where `s` is consistent. -/
def State.Follows (s v : State) : Prop := s.SameStore v ∧ (s.Consistent → v.WorkLegal)

/-- `t` is a state with a property, its outputs driven. -/
def State.DrivenFrom (P : State → Prop) (t : State) : Prop := ∃ v, P v ∧ t = v.drive

theorem State.drivenFrom_of_done {P : State → Prop} {t v : State} (e : v.done = .next t) (h : P v) :
    State.DrivenFrom P t := by
  simp only [State.done, Host.Outcome.next.injEq] at e
  exact ⟨v, h, e.symm⟩

/-- A state that differs from `s` in nothing the accesses stand in follows it. -/
theorem State.follows_of_dock {s v : State} (e : v.dock = s.dock) (hr : s.Consistent → s.inReset = false) :
    s.Follows v :=
  ⟨State.sameStore_of_dock e, fun hs => hs.workLegal.of_dock e (hr hs)⟩

theorem State.Follows.settle {s v : State} (h : s.Follows v) : s.Follows v.settle :=
  ⟨h.1.settle, fun hs => (h.2 hs).settle⟩

/-! ### Host cycles -/

theorem State.dock_unless (p : Prop) [Decidable p] {s v : State} (f : FaultRecord) (e : v.dock = s.dock) :
    (if p then v else v.handFault f).dock = s.dock := by
  split
  all_goals exact e

theorem State.endCycle_dock {s v : State} (e : v.dock = s.dock) (a : HostAnswer) :
    (v.endCycle a).dock = (s.endCycle .readyWrite).dock :=
  congrArg (fun d : Dock => { d with cycle := none }) e

/-- The host cycle in progress ends or begins, in no Work Store access. -/
theorem State.follows_of_host {s v : State} (hstore : s.SameStore v) (e : s.HostChanges v) (hr : s.inReset = false)
    (hs : s.hbi.OutOfAccess) (hv : v.hbi.OutOfAccess) (hb : s.hbi.buffer ≠ [] → v.hbi.buffer ≠ []) : s.Follows v :=
  ⟨hstore, fun h => h.workLegal.hostChanges hr e hs hv hb⟩

/-- A host memory cycle that arrives outside RESET on a free bus. -/
theorem State.arriveRoute_follows {s : State} (c : MemoryCycle) (claimed : Bool) (r : Route) (hf : s.busFree = true)
    (hr : s.inReset = false) :
    s.Follows ((s.arrive .memory (wordAddr c.ha) c.dir claimed).arriveRoute c r) := by
  obtain ⟨hc, -⟩ := s.busFree_iff.mp hf
  have hs : s.hbi.OutOfAccess := Hbi.outOfAccess_of_free hc
  have hrefused (kind : FaultKind) (b : Fin 64) (fa : FaultAction) (data : Option LaneData) :
      s.Follows ((s.arrive .memory (wordAddr c.ha) c.dir claimed).endRefused kind (wordAddr c.ha) c.dir b fa data) := by
    rw [State.endRefused_eq]
    split
    all_goals exact State.follows_of_host ⟨rfl, rfl⟩ ⟨rfl, rfl, rfl, rfl⟩ hr hs (Hbi.outOfAccess_of_free rfl) id
  have hwork (off : Offset) (b : Fin 64) (ov : Option (Fin 16)) :
      s.Follows ((s.arrive .memory (wordAddr c.ha) c.dir claimed).arriveWork c off b ov) := by
    refine State.Follows.settle (State.follows_of_host ⟨rfl, rfl⟩ ⟨rfl, rfl, rfl, rfl⟩ hr hs
      (Hbi.outOfAccess_of_cycle rfl ?_) id)
    show (if _ then HostStage.awaitWork else .awaitDrain) ≠ _
    split
    all_goals exact nofun
  cases r with
  | notClaimed => exact State.follows_of_dock rfl fun _ => hr
  | discard b fa => exact hrefused .discardedWrite b fa none
  | closed b fa => exact hrefused .closedAccess b fa _
  | bootRead off b =>
    show s.Follows (State.arriveBootRead c off b _)
    unfold State.arriveBootRead
    split
    · exact State.follows_of_host ⟨rfl, rfl⟩ ⟨rfl, rfl, rfl, rfl⟩ hr hs (Hbi.outOfAccess_of_cycle rfl nofun) id
    · exact State.follows_of_host ⟨rfl, rfl⟩ ⟨rfl, rfl, rfl, rfl⟩ hr hs (Hbi.outOfAccess_of_cycle rfl nofun) id
  | workRead off b ov => exact hwork off b ov
  | workWrite off b ov =>
    show s.Follows (if s.hbi.postingEnable then State.arrivePosted c off b ov _ else _)
    split
    · unfold State.arrivePosted
      dsimp only
      split
      · exact State.Follows.settle (State.follows_of_host ⟨rfl, rfl⟩ ⟨rfl, rfl, rfl, rfl⟩ hr hs
          (Hbi.outOfAccess_of_free rfl) fun _ => by simp)
      · exact State.Follows.settle (State.follows_of_host ⟨rfl, rfl⟩ ⟨rfl, rfl, rfl, rfl⟩ hr hs
          (Hbi.outOfAccess_of_cycle rfl nofun) id)
    · exact hwork off b ov

theorem execHostMemoryCycleArrival_follows {c : MemoryCycle} {s t : State}
    (h : execHostMemoryCycleArrival c s = .next t) : t.DrivenFrom s.Follows := by
  unfold execHostMemoryCycleArrival at h
  split at h
  · cases h
  split at h
  · cases h
  rename_i hf
  split at h
  · exact State.drivenFrom_of_done h ⟨⟨rfl, rfl⟩, State.Consistent.workLegal (s := s)⟩
  · rename_i hr
    exact State.drivenFrom_of_done h (State.arriveRoute_follows c _ _ (by simpa using hf) (by simpa using hr))

theorem execUnclaimedIoCycle_follows {dir : Direction} {c : IoCycle} {s t : State}
    (h : execUnclaimedIoCycle dir c s = .next t) : t.DrivenFrom s.Follows := by
  unfold execUnclaimedIoCycle at h
  split at h
  · cases h
  split at h
  · cases h
  split at h
  · exact State.drivenFrom_of_done h ⟨⟨rfl, rfl⟩, State.Consistent.workLegal (s := s)⟩
  split at h
  · cases dir with
    | read => exact State.drivenFrom_of_done h ⟨⟨rfl, rfl⟩, State.Consistent.workLegal (s := s)⟩
    | write => cases h
  · exact State.drivenFrom_of_done h ⟨⟨rfl, rfl⟩, State.Consistent.workLegal (s := s)⟩

theorem execUnclaimedCycleEnd_follows {s t : State} (h : execUnclaimedCycleEnd s = .next t) :
    t.DrivenFrom s.Follows := by
  unfold execUnclaimedCycleEnd at h
  split at h
  · cases h
  · exact State.drivenFrom_of_done h ⟨⟨rfl, rfl⟩, State.Consistent.workLegal (s := s)⟩

theorem execHostWaitTimeout_follows {s t : State} (h : execHostWaitTimeout s = .next t) : t.DrivenFrom s.Follows := by
  unfold execHostWaitTimeout at h
  split at h
  · cases h
  rename_i c hc
  split at h
  · cases h
  rename_i w hw
  split at h
  · cases h
  refine State.drivenFrom_of_done h (State.Follows.settle ⟨⟨rfl, rfl⟩, fun hs => ?_⟩)
  have hwaits : c.stage ≠ .workAccess := fun hstage => by simp [hstage, HostStage.awaited] at hw
  exact hs.workLegal.hostChanges (hs.workLegal.running_of_cycle hc) ⟨rfl, rfl, rfl, rfl⟩
    (Hbi.outOfAccess_of_cycle hc hwaits) (Hbi.outOfAccess_of_free rfl) id

theorem execHostBootReadComplete_follows {s t : State} (h : execHostBootReadComplete s = .next t) :
    t.DrivenFrom s.Follows := by
  unfold execHostBootReadComplete at h
  split at h
  · rename_i b c hb hc
    split at h
    · rename_i hu
      refine State.drivenFrom_of_done h ⟨.trans ⟨rfl, rfl⟩ (State.bootNext_sameStore _), fun hs => ?_⟩
      obtain ⟨-, -, hhost, hboot, -⟩ := id hs
      obtain ⟨-, -, -, hreads, -⟩ := (State.hostLegal_iff_held hc).mp hhost
      have hstage : c.stage ≠ .workAccess := by simp [hreads.mp ⟨b, hb, hu⟩]
      have hr := hs.workLegal.running_of_cycle hc
      exact State.WorkLegal.bootNext (hs.workLegal.hostChanges hr ⟨rfl, rfl, rfl, rfl⟩
          (Hbi.outOfAccess_of_cycle hc hstage) (Hbi.outOfAccess_of_free rfl) id) hr
        (fun _ => Hbi.outOfAccess_of_free rfl) hboot.outOfAccess
    · cases h
  · cases h

theorem execHostWorkReadComplete_follows {s t : State} (h : execHostWorkReadComplete s = .next t) :
    t.DrivenFrom s.Follows := by
  unfold execHostWorkReadComplete at h
  split at h
  · rename_i check c ha hc
    have hended (v : State) (a : HostAnswer) (e : v.dock = s.endAccess.dock) : s.Follows (v.endCycle a) := by
      have hdock := State.endCycle_dock e a
      refine ⟨State.SameStore.trans (t := s.endAccess.endCycle .readyWrite) ⟨rfl, rfl⟩
        (State.sameStore_of_dock hdock), fun hs => ?_⟩
      have hr := hs.workLegal.running_of_cycle hc
      obtain ⟨-, hengine, hcycle⟩ := hs.workLegal.access.others ha
      exact State.WorkLegal.of_dock (s := s.endAccess.endCycle .readyWrite) (State.workLegal_of_free hr rfl
        (Hbi.outOfAccess_of_free rfl) (hengine nofun) (hcycle nofun) hs.workLegal.aux) hdock hr
    exact State.drivenFrom_of_done h (.settle (hended _ _ (State.dock_unless _ _ rfl)))
  · cases h

theorem execUnpostedWriteComplete_legal {s t : State} (h : execUnpostedWriteComplete s = .next t) :
    t.DrivenFrom fun v => s.Consistent → v.WorkLegal := by
  unfold execUnpostedWriteComplete at h
  split at h
  · rename_i c ha hc
    refine State.drivenFrom_of_done h fun hs => State.WorkLegal.settle ?_
    have hbut : ButWork s.endAccess (s.endAccess.writeLanes c.offset c.lanes c.data) := State.writeWork_butWork ..
    refine ((hbut.mark c.offset c.lanes).endCycle .readyWrite).workLegal ?_
    obtain ⟨-, hengine, hcycle⟩ := hs.workLegal.access.others ha
    exact State.workLegal_of_free (hs.workLegal.running_of_cycle hc) rfl (Hbi.outOfAccess_of_free rfl)
      (hengine nofun) (hcycle nofun) hs.workLegal.aux
  · cases h

/-- What a drain does for the waiting cycle keeps all legal: it starts no access (R43, R46). -/
theorem State.WorkLegal.afterDrain {s : State} (h : s.WorkLegal) (hr : s.inReset = false) (hs : s.hbi.OutOfAccess) :
    s.afterDrain.WorkLegal := by
  unfold State.afterDrain
  split
  · rename_i c hc
    split
    · exact h.hostChanges hr ⟨rfl, rfl, rfl, rfl⟩ hs (Hbi.outOfAccess_of_free rfl) fun _ => by simp
    · split
      · exact h.hostChanges hr ⟨rfl, rfl, rfl, rfl⟩ hs
          (Hbi.outOfAccess_of_cycle (s.restage_cycle hc .awaitWork) nofun) id
      · exact h
    · exact h
  · exact h

theorem execDrainComplete_legal {s t : State} (h : execDrainComplete s = .next t) :
    t.DrivenFrom fun v => s.Consistent → v.WorkLegal := by
  unfold execDrainComplete at h
  split at h
  · rename_i e rest ha hb
    have hbut : ButWork s.endAccess (s.endAccess.writeLanes e.offset e.lanes e.data) := State.writeWork_butWork ..
    refine State.drivenFrom_of_done h fun hs => State.WorkLegal.settle ((hbut.withBuffer rest).afterDrain.workLegal ?_)
    obtain ⟨hhost, hengine, hcycle⟩ := hs.workLegal.access.others ha
    have hr := hs.workLegal.running_of_access ha
    have hfree : State.WorkLegal { s.endAccess with hbi := { s.endAccess.hbi with buffer := rest } } :=
      State.workLegal_of_free hr rfl (hhost (.inr rfl)) (hengine nofun) (hcycle nofun) hs.workLegal.aux
    exact hfree.afterDrain hr (hhost (.inr rfl))
  · cases h

/-! ### The engine -/

theorem State.SameButEngine.engineChanges {s t : State} (h : s.SameButEngine t) : s.EngineChanges t := by
  obtain ⟨hhbi, hwsc, hamp, -, -, -, hin, -⟩ := h
  exact ⟨by rw [hwsc], hhbi, hamp, hin⟩

theorem State.offer_engineChanges (s : State) (r : CompletionRecord) : s.EngineChanges (s.offer r) := by
  unfold State.offer
  split
  all_goals exact ⟨rfl, rfl, rfl, rfl⟩

theorem State.offer_sameStore (s : State) (r : CompletionRecord) : s.SameStore (s.offer r) := by
  unfold State.offer
  split
  all_goals exact ⟨rfl, rfl⟩

theorem State.offer_outOfAccess (s : State) (r : CompletionRecord) : (s.offer r).txe.engine.OutOfAccess := by
  unfold State.offer
  split
  all_goals exact EngineState.outOfAccess_of_inactive rfl

theorem State.SameButEngine.sameStore {s t : State} (h : s.SameButEngine t) : s.SameStore t := by
  obtain ⟨-, -, houtside⟩ := h
  exact houtside.sameStore

theorem execActivation_follows {s t : State} (h : execActivation s = .next t) : t.DrivenFrom s.Follows := by
  unfold execActivation at h
  split at h
  · rename_i j rest hidle hq
    have hout : s.txe.engine.OutOfAccess := EngineState.outOfAccess_of_inactive (by rw [hidle]; rfl)
    have hr (hs : s.Consistent) : s.inReset = false :=
      hs.workLegal.running fun ⟨_, htxe, _⟩ => by simp [htxe, defaultTxe] at hq
    dsimp only at h
    split at h
    · rw [State.retire_unapplied _ _ _ _ (actionResult_failed _ _)] at h
      exact State.drivenFrom_of_done h ⟨State.offer_sameStore _ _, fun hs =>
        State.WorkLegal.engineChanges hs.workLegal (hr hs) (State.offer_engineChanges _ _) hout
          (State.offer_outOfAccess _ _)⟩
    · exact State.drivenFrom_of_done h (State.Follows.settle
        ⟨.trans ⟨rfl, rfl⟩ (State.beginLine_sameButEngine _ _).sameStore, fun hs => hs.workLegal.engineChanges (hr hs)
          (State.beginLine_sameButEngine _ _).engineChanges hout (State.beginLine_outOfAccess _ _)⟩)
  · cases h

/-- A host cycle that asks for the Boot Store is in no Work Store access. -/
theorem State.Consistent.hostOutOfAccess {s : State} (hs : s.Consistent) (hq : s.bsc.hostRequest ≠ none) :
    s.hbi.OutOfAccess := by
  obtain ⟨-, -, ⟨-, -, hrequest, -⟩, -⟩ := hs
  obtain ⟨c, hc, hstage⟩ := hrequest.mp hq
  exact Hbi.outOfAccess_of_cycle hc (by simp [hstage])

/-- A line that asks for the Boot Store is in no Work Store access. -/
theorem State.Consistent.lineOutOfAccess {s : State} (hs : s.Consistent) (hq : s.bsc.engineRequest ≠ none) :
    s.txe.engine.OutOfAccess := by
  obtain ⟨-, -, -, hboot, -⟩ := hs
  exact hboot.outOfAccess hq

theorem execEngineBootReadComplete_follows {s t : State} (h : execEngineBootReadComplete s = .next t) :
    t.DrivenFrom s.Follows := by
  unfold execEngineBootReadComplete at h
  split at h
  · rename_i b hb
    split at h
    · rename_i hu
      have hr (hs : s.Consistent) : s.inReset = false := hs.workLegal.running (by simp [hb])
      split at h
      · exact State.drivenFrom_of_done h (State.Follows.settle ⟨s.bootNext_sameStore, fun hs =>
          hs.workLegal.bootNext (hr hs) hs.hostOutOfAccess hs.lineOutOfAccess⟩)
      · rename_i hd
        refine State.drivenFrom_of_done h (State.Follows.settle
          ⟨.trans ⟨rfl, rfl⟩ (State.bootNext_sameStore _), fun hs => ?_⟩)
        obtain ⟨-, -, -, ⟨-, -, -, hreading, -⟩, -⟩ := id hs
        obtain ⟨a, hactive, hstage⟩ := hreading.mp ⟨b, hb, hu, by simpa using hd⟩
        have hread : s.txe.engine.OutOfAccess := EngineState.outOfAccess_of_active hactive (by rw [hstage]; rfl)
        have hwaits := s.txe.engine.mapActive_outOfAccess (st := .awaitWork (readLine s.boot b.offset)) rfl
        exact State.WorkLegal.bootNext (hs.workLegal.engineChanges (hr hs) ⟨rfl, rfl, rfl, rfl⟩ hread hwaits) (hr hs)
          hs.hostOutOfAccess fun _ => hwaits
    · cases h
  · cases h

/-- The access of a line whose job was discarded ends (R84). -/
theorem State.Consistent.lineDropped {s : State} (hs : s.Consistent) {w : WorkAccess} (ha : s.wsc.access = some w)
    (hw : w.requester = .engine) (hd : w.drop = w) : s.endAccess.WorkLegal := by
  obtain ⟨haccess, haux, -⟩ := hs.workLegal
  obtain ⟨hhost, -, hcycle⟩ := haccess.others ha
  exact State.workLegal_of_free (hs.workLegal.running_of_access ha) rfl (hhost (by simp [hw]))
    (haccess.dropped ha hd) (hcycle (by simp [hw])) haux

/-- The access in progress has ended; the host path, the auxiliary port and RESET stay. -/
def State.Freed (s v : State) : Prop := v.wsc.access = none ∧ v.hbi = s.hbi ∧ v.amp = s.amp ∧ v.inReset = s.inReset

/-- The access of a line ends, and the line completes with it (R69, R75). -/
theorem State.Consistent.lineCompletes {s v : State} (hs : s.Consistent) {w : WorkAccess} (ha : s.wsc.access = some w)
    (hw : w.requester = .engine)
    (e : s.Freed v) (r : LineResult) : (v.completeLine r).WorkLegal := by
  obtain ⟨hfree, hhbi, hamp, hin⟩ := e
  obtain ⟨haccess, haux, -⟩ := hs.workLegal
  obtain ⟨hhost, -, hcycle⟩ := haccess.others ha
  refine State.WorkLegal.completeLine (hin.trans (hs.workLegal.running_of_access ha)) hfree ?_ ?_ ?_ r
  · rw [hhbi]
    exact hhost (by simp [hw])
  · rw [hamp]
    exact hcycle (by simp [hw])
  · unfold State.AuxLegal
    rwa [hamp]

theorem execLineWriteComplete_legal {s t : State} (h : execLineWriteComplete s = .next t) :
    t.DrivenFrom fun v => s.Consistent → v.WorkLegal := by
  unfold execLineWriteComplete at h
  split at h
  · rename_i off data mask dropped ha
    have hbut : ButWork s.endAccess (s.endAccess.writeLine off mask data) := State.writeWork_butWork ..
    dsimp only at h
    split at h
    · rename_i hd
      exact State.drivenFrom_of_done h fun hs =>
        State.WorkLegal.settle (hbut.workLegal (hs.lineDropped ha rfl (by rw [hd]; rfl)))
    · refine State.drivenFrom_of_done h fun hs => State.WorkLegal.settle ?_
      refine hs.lineCompletes ha rfl ?_ _
      rw [hbut]
      exact ⟨rfl, rfl, rfl, rfl⟩
  · cases h

theorem execVerifyReadComplete_follows {s t : State} (h : execVerifyReadComplete s = .next t) :
    t.DrivenFrom s.Follows := by
  unfold execVerifyReadComplete at h
  split at h
  · rename_i off check dropped ha
    have hcompletes (v : State) (r : LineResult) (hstore : s.SameStore v) (e : s.Freed v) :
        s.Follows (v.completeLine r) :=
      ⟨hstore.trans (v.completeLine_sameButEngine r).sameStore, fun hs => hs.lineCompletes ha rfl e r⟩
    split at h
    · rename_i hd
      exact State.drivenFrom_of_done h (.settle ⟨⟨rfl, rfl⟩, fun hs => hs.lineDropped ha rfl (by rw [hd]; rfl)⟩)
    split at h
    · split at h
      · split at h
        · refine State.drivenFrom_of_done h (.settle (hcompletes _ _ ?_ ?_))
          · exact ⟨rfl, rfl⟩
          · exact ⟨rfl, rfl, rfl, rfl⟩
        · exact State.drivenFrom_of_done h (.settle (hcompletes s.endAccess _ ⟨rfl, rfl⟩ ⟨rfl, rfl, rfl, rfl⟩))
      · cases h
    · cases h
  · cases h

/-! ### The arbiter and the auxiliary port -/

theorem State.handover_dock (o : Requester) (forfeit : Bool) (s : State) : (s.handover o forfeit).dock = s.dock := by
  unfold State.handover
  repeat' split
  all_goals rfl

theorem State.tick_follows (s : State) : s.Follows s.tick := by
  have hticked : s.Follows s.ticked := by
    rw [State.ticked_eq]
    exact ⟨⟨rfl, rfl⟩, State.Consistent.workLegal (s := s)⟩
  rcases s.tick_cases with ⟨o, -, ho, heq⟩ | ⟨-, heq⟩
  · rw [heq]
    refine State.Follows.settle ⟨.trans hticked.1 (State.sameStore_of_dock (State.handover_dock ..)), fun hs => ?_⟩
    have hr : s.ticked.inReset = false := by
      rw [State.ticked_eq]
      exact hs.workLegal.running_of_owner ho
    exact (hticked.2 hs).of_dock (State.handover_dock ..) hr
  · rw [heq]
    exact hticked.settle

theorem execGuaranteeExpiry_follows {s t : State} (h : execGuaranteeExpiry s = .next t) : t.DrivenFrom s.Follows := by
  unfold execGuaranteeExpiry at h
  split at h
  · exact State.drivenFrom_of_done h s.tick_follows
  · cases h

theorem execIdleExpiry_follows {s t : State} (h : execIdleExpiry s = .next t) : t.DrivenFrom s.Follows := by
  unfold execIdleExpiry at h
  split at h
  · exact State.drivenFrom_of_done h s.tick_follows
  · cases h

theorem execAreqAssert_follows {s t : State} (h : execAreqAssert s = .next t) : t.DrivenFrom s.Follows := by
  unfold execAreqAssert at h
  split at h
  · cases h
  dsimp only at h
  have hlevel : s.Follows { s with amp := { s.amp with areq := true } } :=
    ⟨⟨rfl, rfl⟩, State.Consistent.workLegal (s := s)⟩
  split at h
  · exact State.drivenFrom_of_done h hlevel
  · refine State.drivenFrom_of_done h (State.Follows.settle ?_)
    unfold State.resumeAux
    split
    all_goals exact hlevel

theorem execAreqDeassert_follows {s t : State} (h : execAreqDeassert s = .next t) : t.DrivenFrom s.Follows := by
  unfold execAreqDeassert at h
  split at h
  · cases h
  dsimp only at h
  have hlevel : s.Follows { s with amp := { s.amp with areq := false } } :=
    ⟨⟨rfl, rfl⟩, State.Consistent.workLegal (s := s)⟩
  split at h
  · exact State.drivenFrom_of_done h hlevel
  · exact State.drivenFrom_of_done h hlevel.settle

/-- An aux cycle that is in no access may go on to what is no access. -/
theorem State.AccessLegal.auxChanges {s v : State} (h : s.AccessLegal) (hw : v.wsc.access = s.wsc.access)
    (hhbi : v.hbi = s.hbi) (hengine : v.txe.engine = s.txe.engine)
    (hcycle : v.amp.cycle.inAccess = s.amp.cycle.inAccess) : v.AccessLegal := by
  obtain ⟨hhost, hline, haux⟩ := s.accessLegal_iff.mp h
  refine v.accessLegal_iff.mpr ?_
  rw [hw, hhbi, hengine]
  refine ⟨hhost, hline, ?_⟩
  unfold AuxState.FitsAccess at haux ⊢
  rwa [hcycle]

/-- With AGNT asserted between aux cycles the port is free for AUX (R109, R126). -/
theorem State.Consistent.free_of_agnt {s : State} (hs : s.Consistent) (hc : s.amp.cycle = .noCycle)
    (hg : s.pins.agnt = true) : s.inReset = false ∧ s.wsc.access = none := by
  obtain ⟨-, -, -, -, haccess, ⟨howner, -⟩, -, -, ⟨-, hagnt, -⟩⟩ := id hs
  obtain ⟨haux, -⟩ := s.agntLevel_iff.mp (hagnt ▸ hg)
  refine ⟨hs.workLegal.running_of_owner haux, Option.eq_none_iff_forall_ne_some.mpr ?_⟩
  intro w hw
  have hmine : Requester.aux = w.requester := Option.some.inj (haux.symm.trans (howner w hw))
  obtain ⟨-, -, hcycle⟩ := s.accessLegal_iff.mp haccess
  rw [hw, hc] at hcycle
  cases w with
  | aux check => exact nomatch hcycle.mpr ⟨check, rfl⟩
  | drain | hostRead | hostWrite | lineWrite | lineRead => cases hmine

theorem execAuxCycleStart_follows {c : AuxRequest} {s t : State} (h : execAuxCycleStart c s = .next t) :
    t.DrivenFrom s.Follows := by
  unfold execAuxCycleStart at h
  split at h
  · cases h
  split at h
  · exact State.drivenFrom_of_done h ⟨⟨rfl, rfl⟩, fun hs => ⟨hs.workLegal.access, fun _ _ _ => rfl, hs.workLegal.reset⟩⟩
  rename_i hr
  rw [Bool.not_eq_true] at hr
  split at h
  · rename_i hc
    have hanswered (v : State) (a : AuxCycle) (e : Bool) (hin : v.inReset = s.inReset) (hstore : s.SameStore v)
        (hw : v.wsc.access = s.wsc.access) (hhbi : v.hbi = s.hbi) (hengine : v.txe.engine = s.txe.engine)
        (hastb : v.amp.astb = true) : s.Follows (v.answerAux a e) :=
      ⟨hstore, fun hs => State.workLegal_of_running (hin.trans hr)
        (hs.workLegal.access.auxChanges hw hhbi hengine (by rw [hc]; rfl)) fun _ _ _ => hastb⟩
    dsimp only at h
    split at h
    · exact State.drivenFrom_of_done h (by exact hanswered _ _ _ rfl ⟨rfl, rfl⟩ rfl rfl rfl rfl)
    rename_i hg
    split at h
    · exact State.drivenFrom_of_done h (by exact hanswered _ _ _ rfl ⟨rfl, rfl⟩ rfl rfl rfl rfl)
    split at h
    · exact State.drivenFrom_of_done h (by exact hanswered _ _ _ rfl ⟨rfl, rfl⟩ rfl rfl rfl rfl)
    · refine State.drivenFrom_of_done h ⟨⟨rfl, rfl⟩, fun hs => ?_⟩
      obtain ⟨-, hfree⟩ := hs.free_of_agnt hc (by simpa using hg)
      obtain ⟨hhost, hengine, -⟩ := (State.accessLegal_iff_free hfree).mp hs.workLegal.access
      exact State.workLegal_of_running hr ((State.accessLegal_iff _).mpr
        ⟨hhost, hengine, iff_of_true rfl ⟨s.wsc.parityCheck, rfl⟩⟩) nofun
  · cases h

/-- The effect of an aux access leaves all but the Work Store, its map and the Fault Queue. -/
theorem State.auxEffect_keeps (s : State) (c : AuxCycle) (check : Bool) :
    (s.auxEffect c check).1.wsc = s.wsc ∧ (s.auxEffect c check).1.hbi = s.hbi
      ∧ (s.auxEffect c check).1.txe.engine = s.txe.engine ∧ (s.auxEffect c check).1.amp = s.amp
      ∧ (s.auxEffect c check).1.inReset = s.inReset := by
  unfold State.auxEffect
  split
  · have hbut : ButWork s (s.writeLanes c.offset c.lanes c.data) := State.writeWork_butWork ..
    dsimp only
    rw [hbut]
    exact ⟨rfl, rfl, rfl, rfl, rfl⟩
  · dsimp only
    repeat' split
    all_goals exact ⟨rfl, rfl, rfl, rfl, rfl⟩

theorem execAuxAccessComplete_legal {s t : State} (h : execAuxAccessComplete s = .next t) :
    t.DrivenFrom fun v => s.Consistent → v.WorkLegal := by
  unfold execAuxAccessComplete at h
  split at h
  · rename_i check c ha hc
    obtain ⟨hwsc, hhbi, hengine, -, hin⟩ := s.endAccess.auxEffect_keeps c check
    generalize s.endAccess.auxEffect c check = x at h hwsc hhbi hengine hin
    refine State.drivenFrom_of_done h fun hs => State.WorkLegal.settle ?_
    obtain ⟨hhost, hline, -⟩ := hs.workLegal.access.others ha
    refine State.workLegal_of_free (hin.trans (hs.workLegal.running_of_access ha))
      (congrArg Wsc.access hwsc) (by rw [hhbi]; exact hhost (.inl nofun)) (by rw [hengine]; exact hline nofun) ?_ ?_
    · dsimp only
      split
      all_goals rfl
    · intro a x hx
      dsimp only at hx ⊢
      split at hx
      · assumption
      · cases hx
  · cases h

theorem execAstbDrop_follows {s t : State} (h : execAstbDrop s = .next t) : t.DrivenFrom s.Follows := by
  unfold execAstbDrop at h
  split at h
  · cases h
  refine State.drivenFrom_of_done h ⟨⟨rfl, rfl⟩, fun hs => ?_⟩
  obtain ⟨haccess, -, hreset⟩ := hs.workLegal
  cases hc : s.amp.cycle with
  | answered c a =>
    have hr : s.inReset = false := by
      refine Bool.eq_false_iff.mpr fun hin => ?_
      obtain ⟨-, -, -, -, -, -, hnone, -⟩ := hreset hin
      rw [hc] at hnone
      cases hnone
    exact State.workLegal_of_running hr (haccess.auxChanges rfl rfl rfl (by rw [hc]; rfl)) nofun
  | noCycle | access c =>
    refine ⟨haccess.auxChanges rfl rfl rfl (by rw [hc]), nofun, fun hin => ?_⟩
    have hall := hreset hin
    rw [hc] at hall
    exact hall

theorem execAstbAssertionDuringAccess_follows {s t : State} (h : execAstbAssertionDuringAccess s = .next t) :
    t.DrivenFrom s.Follows := by
  unfold execAstbAssertionDuringAccess at h
  split at h
  · split at h
    · cases h
    · exact State.drivenFrom_of_done h
        ⟨⟨rfl, rfl⟩, fun hs => ⟨hs.workLegal.access, fun _ _ _ => rfl, hs.workLegal.reset⟩⟩
  · cases h

/-! ### The resets -/

theorem State.clearForReset_workLegal (s : State) : s.clearForReset.WorkLegal :=
  ⟨(State.accessLegal_iff_free rfl).mpr
      ⟨Hbi.outOfAccess_of_free rfl, EngineState.outOfAccess_of_inactive rfl, rfl⟩,
    nofun, fun _ => ⟨rfl, rfl, rfl, rfl, rfl, rfl, rfl, rfl⟩⟩

theorem execResetAssert_legal {s t : State} (h : execResetAssert s = .next t) :
    t.DrivenFrom fun v => s.Consistent → v.WorkLegal := by
  unfold execResetAssert at h
  split at h
  · cases h
  · exact State.drivenFrom_of_done h fun _ => State.clearForReset_workLegal _

theorem execResetRelease_follows {st : Straps} {s t : State} (h : execResetRelease st s = .next t) :
    t.DrivenFrom s.Follows := by
  unfold execResetRelease at h
  split at h
  · exact State.drivenFrom_of_done h (State.Follows.settle ⟨⟨rfl, rfl⟩, fun _ => State.workLegal_of_free rfl rfl
      (Hbi.outOfAccess_of_free rfl) (EngineState.outOfAccess_of_inactive rfl) rfl nofun⟩)
  · cases h

/-! ### Register window writes and commands -/

/-- The part takes a data port write only out of RESET (R39). -/
theorem State.TakesWrite.running {s : State} {c : IoCycle} {i b : Byte} (h : s.TakesWrite c i b) :
    s.inReset = false := by
  obtain ⟨-, hw⟩ := h
  cases hr : s.inReset with
  | false => rfl
  | true => simp [State.dataPortWrite, hr] at hw

theorem State.Follows.of_dock {s u v : State} (h : s.Follows u) (e : v.dock = u.dock)
    (hr : s.Consistent → u.inReset = false) : s.Follows v :=
  ⟨h.1.trans (State.sameStore_of_dock e), fun hs => (h.2 hs).of_dock e (hr hs)⟩

/-- A data port write whose effect changes nothing the accesses stand in follows the state before it. -/
theorem State.dataWrite_follows {s t : State} {c : IoCycle} {mine : Byte → Byte → Bool}
    {effect : Byte → Byte → State → State} (h : s.dataWrite c mine effect = .next t)
    (heff : ∀ i b u, (effect i b u).dock = u.dock) : t.DrivenFrom s.Follows := by
  obtain ⟨i, b, htakes, -, rfl⟩ := State.dataWrite_next s t c mine effect h
  refine ⟨_, State.follows_of_dock ?_ fun _ => htakes.running, rfl⟩
  exact heff i b (s.openIo c)

/-- A command whose block's rule changes nothing the accesses stand in follows the state before it. -/
theorem State.command_follows {s t : State} {c : IoCycle} {mine : Byte → Bool} {run : State → Reply}
    (h : s.command c mine run = .next t) (hrun : ∀ u, (run u).state.dock = u.dock) : t.DrivenFrom s.Follows :=
  State.dataWrite_follows h fun _ _ u => hrun u

theorem execIndexPortWrite_follows {c : IoCycle} {s t : State} (h : execIndexPortWrite c s = .next t) :
    t.DrivenFrom s.Follows := by
  unfold execIndexPortWrite at h
  split at h
  · cases h
  split at h
  · exact State.drivenFrom_of_done h ⟨⟨rfl, rfl⟩, State.Consistent.workLegal (s := s)⟩
  · cases h

theorem execRegisterWrite_follows {c : IoCycle} {s t : State} (h : execRegisterWrite c s = .next t) :
    t.DrivenFrom s.Follows := by
  refine State.dataWrite_follows h fun i b u => ?_
  split
  all_goals rfl

theorem State.runSetWindow_dock (u : State) : u.runSetWindow.state.dock = u.dock := by
  unfold State.runSetWindow
  repeat' split
  all_goals rfl

theorem State.runCommitRoute_dock (u : State) : u.runCommitRoute.state.dock = u.dock := by
  unfold State.runCommitRoute
  repeat' split
  all_goals rfl

theorem State.runLoadRoute_dock (u : State) : u.runLoadRoute.state.dock = u.dock := by
  unfold State.runLoadRoute
  split
  all_goals rfl

theorem State.runCommitOverlay_dock (u : State) : u.runCommitOverlay.state.dock = u.dock := by
  unfold State.runCommitOverlay
  repeat' split
  all_goals rfl

theorem State.runLoadOverlay_dock (u : State) : u.runLoadOverlay.state.dock = u.dock := by
  unfold State.runLoadOverlay
  split
  all_goals rfl

theorem State.runSubmitJob_dock (u : State) : u.runSubmitJob.state.dock = u.dock := by
  unfold State.runSubmitJob
  repeat' split
  all_goals rfl

/-- A job that is to end with its line stays active (R80). -/
theorem State.runAbortActive_dock (u : State) : u.runAbortActive.state.dock = u.dock := by
  unfold State.runAbortActive State.dock
  split
  · rename_i a ha
    simp [ha, EngineState.active]
  all_goals rfl

theorem State.runSetAuxWindow_dock (u : State) : u.runSetAuxWindow.state.dock = u.dock := by
  unfold State.runSetAuxWindow
  dsimp only
  repeat' split
  all_goals rfl

theorem State.runPopFault_dock (u : State) : u.runPopFault.state.dock = u.dock := by
  unfold State.runPopFault
  split
  all_goals rfl

/-- An engine that held a completion record has no active job (R79). -/
theorem State.runPopCompletion_dock (u : State) : u.runPopCompletion.state.dock = u.dock := by
  unfold State.runPopCompletion State.dock
  split
  · rfl
  split
  · rename_i q hq
    simp [hq, EngineState.active]
  · rfl

theorem State.runCommitSelect_dock (u : State) : u.runCommitSelect.state.dock = u.dock := by
  unfold State.runCommitSelect
  repeat' split
  all_goals rfl

theorem State.runLoadSelect_dock (u : State) : u.runLoadSelect.state.dock = u.dock := by
  unfold State.runLoadSelect
  split
  all_goals rfl

theorem State.runSetPorts_dock (u : State) : u.runSetPorts.state.dock = u.dock := by
  unfold State.runSetPorts
  split
  all_goals rfl

/-- ENGINE_RESET drops a line access in progress and leaves any other (R84). -/
theorem State.AccessLegal.engineDiscarded {s : State} (h : s.AccessLegal) : s.engineDiscarded.AccessLegal := by
  obtain ⟨hhost, -, haux⟩ := s.accessLegal_iff.mp h
  have hline : s.engineDiscarded.txe.engine.OutOfAccess := EngineState.outOfAccess_of_inactive rfl
  refine (State.accessLegal_iff _).mpr ?_
  show s.hbi.FitsAccess (s.wsc.access.map WorkAccess.drop) ∧ EngineState.FitsAccess _ (s.wsc.access.map WorkAccess.drop)
    ∧ s.amp.cycle.FitsAccess (s.wsc.access.map WorkAccess.drop)
  rcases hw : s.wsc.access with _ | _ | _ | _ | _ | _ | _
  all_goals
    rw [hw] at hhost haux
    exact ⟨hhost, hline, by simpa [AuxState.FitsAccess, WorkAccess.drop] using haux⟩

theorem execEngineReset_follows {c : IoCycle} {s t : State} (h : execEngineReset c s = .next t) :
    t.DrivenFrom s.Follows := by
  obtain ⟨code, htakes, -, rfl⟩ := State.command_next s t c _ _ h
  have hr : s.inReset = false := htakes.running
  have hdiscarded : s.Follows (s.openIo c).engineDiscarded.settle :=
    .settle ⟨⟨rfl, rfl⟩, fun hs => State.workLegal_of_running hr
      (State.AccessLegal.engineDiscarded (s := s.openIo c) hs.workLegal.access) hs.workLegal.aux⟩
  obtain ⟨-, -, -, -, hin, -⟩ := (s.openIo c).engineDiscarded.settle_outside
  refine ⟨_, hdiscarded.of_dock ?_ fun _ => hin.trans hr, rfl⟩
  rfl

/-! ### Every command -/

/-- The commands that complete or abandon a write of the Work Store. -/
def endsWrite : Instr → Bool
  | .drainComplete | .unpostedWriteComplete | .lineWriteComplete | .auxAccessComplete | .resetAssert => true
  | _ => false

/-- What a command's next state keeps of `s` before its outputs are driven: the Work Store, unless the command ends a
write, and the legality of the accesses. -/
def State.Yields (s : State) (i : Instr) (v : State) : Prop :=
  (endsWrite i = false → s.SameStore v) ∧ (s.Consistent → v.WorkLegal)

theorem State.DrivenFrom.mono {P Q : State → Prop} {t : State} (h : t.DrivenFrom P) (hpq : ∀ v, P v → Q v) :
    t.DrivenFrom Q := by
  obtain ⟨v, hv, e⟩ := h
  exact ⟨v, hpq v hv, e⟩

/-- Every command answers a state whose accesses are legal, its outputs driven, and only the end of a write changes the
Work Store. -/
theorem exec_drivenFrom {i : Instr} {s t : State} (h : exec i s = .next t) : t.DrivenFrom (s.Yields i) := by
  have hfollows (k : t.DrivenFrom s.Follows) : t.DrivenFrom (s.Yields i) := k.mono fun _ hv => ⟨fun _ => hv.1, hv.2⟩
  have hwrites (hi : endsWrite i = true) (k : t.DrivenFrom fun v => s.Consistent → v.WorkLegal) :
      t.DrivenFrom (s.Yields i) :=
    k.mono fun _ hv => ⟨fun hn => by simp [hi] at hn, hv⟩
  cases i with
  | unpostedWriteComplete => exact hwrites rfl (execUnpostedWriteComplete_legal h)
  | drainComplete => exact hwrites rfl (execDrainComplete_legal h)
  | lineWriteComplete => exact hwrites rfl (execLineWriteComplete_legal h)
  | auxAccessComplete => exact hwrites rfl (execAuxAccessComplete_legal h)
  | resetAssert => exact hwrites rfl (execResetAssert_legal h)
  | hostMemoryCycleArrival c => exact hfollows (execHostMemoryCycleArrival_follows h)
  | unclaimedIoCycle dir c => exact hfollows (execUnclaimedIoCycle_follows h)
  | unclaimedCycleEnd => exact hfollows (execUnclaimedCycleEnd_follows h)
  | hostWaitTimeout => exact hfollows (execHostWaitTimeout_follows h)
  | hostBootReadComplete => exact hfollows (execHostBootReadComplete_follows h)
  | hostWorkReadComplete => exact hfollows (execHostWorkReadComplete_follows h)
  | activation => exact hfollows (execActivation_follows h)
  | engineBootReadComplete => exact hfollows (execEngineBootReadComplete_follows h)
  | verifyReadComplete => exact hfollows (execVerifyReadComplete_follows h)
  | arbiterTick => exact hfollows (State.drivenFrom_of_done h s.tick_follows)
  | guaranteeExpiry => exact hfollows (execGuaranteeExpiry_follows h)
  | idleExpiry => exact hfollows (execIdleExpiry_follows h)
  | areqAssert => exact hfollows (execAreqAssert_follows h)
  | areqDeassert => exact hfollows (execAreqDeassert_follows h)
  | auxCycleStart c => exact hfollows (execAuxCycleStart_follows h)
  | astbDrop => exact hfollows (execAstbDrop_follows h)
  | astbAssertionDuringAccess => exact hfollows (execAstbAssertionDuringAccess_follows h)
  | resetRelease st => exact hfollows (execResetRelease_follows h)
  | indexPortWrite c => exact hfollows (execIndexPortWrite_follows h)
  | registerWrite c => exact hfollows (execRegisterWrite_follows h)
  | stagingWrite c =>
    exact hfollows (State.dataWrite_follows (show execStagingWrite c s = .next t from h) fun _ _ _ => rfl)
  | postingEnableWrite c =>
    exact hfollows (State.dataWrite_follows (show execPostingEnableWrite c s = .next t from h) fun _ _ _ => rfl)
  | hostWaitLimitWrite c =>
    exact hfollows (State.dataWrite_follows (show execHostWaitLimitWrite c s = .next t from h) fun _ _ _ => rfl)
  | parityTerminationWrite c =>
    exact hfollows (State.dataWrite_follows (show execParityTerminationWrite c s = .next t from h) fun _ _ _ => rfl)
  | parityCheckEnableWrite c =>
    exact hfollows (State.dataWrite_follows (show execParityCheckEnableWrite c s = .next t from h) fun _ _ _ => rfl)
  | bootAccessTimeWrite c =>
    exact hfollows (State.dataWrite_follows (show execBootAccessTimeWrite c s = .next t from h) fun _ _ _ => rfl)
  | guaranteeWrite c =>
    exact hfollows (State.dataWrite_follows (show execGuaranteeWrite c s = .next t from h) fun _ _ _ => rfl)
  | idleWindowWrite c =>
    exact hfollows (State.dataWrite_follows (show execIdleWindowWrite c s = .next t from h) fun _ _ _ => rfl)
  | interruptMaskWrite c =>
    exact hfollows (State.dataWrite_follows (show execInterruptMaskWrite c s = .next t from h) fun _ _ _ => rfl)
  | setWindow c => exact hfollows (State.command_follows h State.runSetWindow_dock)
  | commitRoute c => exact hfollows (State.command_follows h State.runCommitRoute_dock)
  | loadRoute c => exact hfollows (State.command_follows h State.runLoadRoute_dock)
  | lockRouting c => exact hfollows (State.command_follows h fun _ => rfl)
  | commitOverlay c => exact hfollows (State.command_follows h State.runCommitOverlay_dock)
  | loadOverlay c => exact hfollows (State.command_follows h State.runLoadOverlay_dock)
  | submitJob c => exact hfollows (State.command_follows h State.runSubmitJob_dock)
  | abortActive c => exact hfollows (State.command_follows h State.runAbortActive_dock)
  | flushQueued c => exact hfollows (State.command_follows h fun _ => rfl)
  | engineReset c => exact hfollows (execEngineReset_follows h)
  | monitorStart c => exact hfollows (State.command_follows h fun _ => rfl)
  | monitorStop c => exact hfollows (State.command_follows h fun _ => rfl)
  | snapshotMonitor c => exact hfollows (State.command_follows h fun _ => rfl)
  | setAuxWindow c => exact hfollows (State.command_follows h State.runSetAuxWindow_dock)
  | popFault c => exact hfollows (State.command_follows h State.runPopFault_dock)
  | clearOverflow c => exact hfollows (State.command_follows h fun _ => rfl)
  | popCompletion c => exact hfollows (State.command_follows h State.runPopCompletion_dock)
  | commitSelect c => exact hfollows (State.command_follows h State.runCommitSelect_dock)
  | loadSelect c => exact hfollows (State.command_follows h State.runLoadSelect_dock)
  | setPorts c => exact hfollows (State.command_follows h State.runSetPorts_dock)
  | unknownCommand c =>
    exact hfollows (State.command_follows (show execUnknownCommand c s = .next t from h) fun _ => rfl)

/-! ### The obligations -/

/-- Settles O3: every command ends by driving the outputs from the state it leaves. -/
theorem outputsFollowEveryCommand : Obligations.OutputsFollowEveryCommand := by
  intro i s t h
  obtain ⟨v, -, rfl⟩ := exec_drivenFrom h
  refine ⟨⟨rfl, rfl, rfl, rfl, rfl⟩, v.intLevel_iff, v.agntLevel_iff, ?_⟩
  rw [State.drive_pins, State.drive_amp]
  cases v.amp.cycle with
  | noCycle | access c => exact ⟨rfl, rfl, rfl⟩
  | answered c a => exact ⟨rfl, rfl, rfl⟩

/-- Settles O5: no other command has changed the Work Store. -/
theorem onlyWriteCompletionsChangeWorkStore : Obligations.OnlyWriteCompletionsChangeWorkStore := by
  intro i s t h hi
  obtain ⟨v, ⟨hstore, -⟩, rfl⟩ := exec_drivenFrom h
  have hnot : endsWrite i = false := by
    cases i
    case drainComplete | unpostedWriteComplete | lineWriteComplete | auxAccessComplete | resetAssert =>
      exact absurd hi (by simp)
    all_goals rfl
  obtain ⟨hwork, hparity⟩ := hstore hnot
  intro a
  rw [State.drive_work, State.drive_workParity, hwork, hparity]
  exact ⟨rfl, rfl⟩

/-- Settles O12: every command keeps the accesses those of their requesters, and a state without a command stays. -/
theorem stepKeepsAccessLegal : Obligations.StepKeepsAccessLegal := by
  intro s t hs h
  unfold step at h
  split at h
  · cases h
    exact hs.workLegal
  · rename_i c rest _
    obtain ⟨v, ⟨-, hlegal⟩, rfl⟩ := exec_drivenFrom h
    exact hlegal hs

end Sys2Proof.Machine
end

section
/-! PROOF. The usage monitor only watches (O16): with another counting flag and other live counters every operation does
the same, but for that flag and those counters. -/

namespace Sys2Proof.Machine

/-! ### Other monitor values -/

/-- `v` is `s` but for the counting flag and the live counters. -/
def State.SameButMonitor (s v : State) : Prop := ∃ counting live, v = s.withMonitor counting live

section
variable (s : State) (counting : Bool) (live : PerRequester Counters)

@[simp] theorem State.withMonitor_hbi : (s.withMonitor counting live).hbi = s.hbi := rfl
@[simp] theorem State.withMonitor_txe : (s.withMonitor counting live).txe = s.txe := rfl
@[simp] theorem State.withMonitor_wsc : (s.withMonitor counting live).wsc = s.wsc := rfl
@[simp] theorem State.withMonitor_bsc : (s.withMonitor counting live).bsc = s.bsc := rfl
@[simp] theorem State.withMonitor_amp : (s.withMonitor counting live).amp = s.amp := rfl
@[simp] theorem State.withMonitor_rpu : (s.withMonitor counting live).rpu = s.rpu := rfl
@[simp] theorem State.withMonitor_rgw : (s.withMonitor counting live).rgw = s.rgw := rfl

@[simp] theorem State.withMonitor_lastOwner : (s.withMonitor counting live).wpa.lastOwner = s.wpa.lastOwner := rfl
@[simp] theorem State.withMonitor_guarantee : (s.withMonitor counting live).wpa.guarantee = s.wpa.guarantee := rfl

@[simp] theorem State.withMonitor_wants (r : Requester) : (s.withMonitor counting live).wants r = s.wants r := by
  cases r <;> rfl

@[simp] theorem State.withMonitor_otherWants (o : Requester) :
    (s.withMonitor counting live).otherWants o = s.otherWants o :=
  rfl

@[simp] theorem State.withMonitor_nextWanting (last : Requester) :
    (s.withMonitor counting live).nextWanting last = s.nextWanting last :=
  rfl

@[simp] theorem State.withMonitor_guaranteeAfter (o : Requester) :
    (s.withMonitor counting live).guaranteeAfter o = s.guaranteeAfter o := by
  simp [State.guaranteeAfter]

theorem State.withMonitor_ite (p : Prop) [Decidable p] (u v : State) :
    (if p then u else v).withMonitor counting live
      = if p then u.withMonitor counting live else v.withMonitor counting live :=
  apply_ite (fun w : State => w.withMonitor counting live) p u v

/-! ### Lines, job ends and accesses -/

theorem State.beginLine_withMonitor (a : ActiveJob) :
    (s.withMonitor counting live).beginLine a = (s.beginLine a).withMonitor counting live := by
  unfold State.beginLine
  dsimp only
  rw [State.withMonitor_ite, State.withMonitor_ite]
  rfl

theorem State.offer_withMonitor (r : CompletionRecord) :
    (s.withMonitor counting live).offer r = (s.offer r).withMonitor counting live := by
  unfold State.offer
  rw [State.withMonitor_ite]
  rfl

theorem State.settleAction_withMonitor (a : ActiveJob) (o : JobOutcome) :
    (s.withMonitor counting live).settleAction a o = (s.settleAction a o).withMonitor counting live := by
  rw [State.settleAction_eq, State.settleAction_eq]
  rfl

theorem State.retire_withMonitor (a : ActiveJob) (o : JobOutcome) (q : Reason) :
    (s.withMonitor counting live).retire a o q = (s.retire a o q).withMonitor counting live := by
  unfold State.retire
  rw [State.settleAction_withMonitor, State.offer_withMonitor]
  rfl

theorem State.jobEnd_withMonitor (a : ActiveJob) (o : JobOutcome) (q : Reason) :
    (s.withMonitor counting live).jobEnd a o q = (s.jobEnd a o q).withMonitor counting live :=
  State.retire_withMonitor { s with rtu := { s.rtu with pin := none }, txe := { s.txe with map := none } } counting live
    a o q

theorem State.completeLine_withMonitor (r : LineResult) :
    (s.withMonitor counting live).completeLine r = (s.completeLine r).withMonitor counting live := by
  unfold State.completeLine
  rw [State.withMonitor_txe]
  cases s.txe.engine with
  | idle | retiring => rfl
  | draining a => exact s.jobEnd_withMonitor counting live _ _ _
  | running a =>
    dsimp only
    rw [State.withMonitor_ite, State.withMonitor_ite, State.jobEnd_withMonitor, State.jobEnd_withMonitor,
      State.beginLine_withMonitor]

/-- ENGINE's next access depends on neither the counting flag nor the live counters. -/
theorem State.serveEngine_withMonitor (n : Nat) :
    State.serveEngine n (s.withMonitor counting live) = (State.serveEngine n s).withMonitor counting live := by
  induction n generalizing s with
  | zero => rfl
  | succ n ih =>
    unfold State.serveEngine
    rw [State.withMonitor_txe]
    cases s.txe.engine.active with
    | none => rfl
    | some a =>
      dsimp only
      cases a.stage with
      | awaitWork d =>
        dsimp only
        rw [State.withMonitor_ite, State.withMonitor_ite, State.completeLine_withMonitor, ih]
        rfl
      | awaitBoot | bootRead | workWrite | workRead => rfl

/-- An owner's next access depends on neither the counting flag nor the live counters. -/
theorem State.serve_withMonitor (r : Requester) :
    (s.withMonitor counting live).serve r = (s.serve r).withMonitor counting live := by
  cases r with
  | hostPath =>
    show State.serveHost _ = s.serveHost.withMonitor _ _
    unfold State.serveHost
    rw [State.withMonitor_hbi]
    cases s.hbi.buffer with
    | cons e rest => rfl
    | nil =>
      cases s.hbi.cycle with
      | none => rfl
      | some c => rfl
  | engine => exact s.serveEngine_withMonitor counting live _
  | aux => rfl

theorem State.afterRelease_withMonitor (o : Requester) :
    (s.withMonitor counting live).afterRelease o = (s.afterRelease o).withMonitor counting live := by
  unfold State.afterRelease
  rw [State.withMonitor_guaranteeAfter]
  rfl

end

/-! ### The arbiter -/

theorem State.SameButMonitor.refl (s : State) : s.SameButMonitor s := ⟨s.wpa.counting, s.wpa.live, rfl⟩

theorem State.SameButMonitor.ite {p : Prop} [Decidable p] {s s' t t' : State} (h : s.SameButMonitor s')
    (k : t.SameButMonitor t') : (if p then s else t).SameButMonitor (if p then s' else t') := by
  split
  · exact h
  · exact k

theorem State.SameButMonitor.grant {s v : State} (h : s.SameButMonitor v) (r : Requester) :
    (s.grant r).SameButMonitor (v.grant r) := by
  obtain ⟨c, l, rfl⟩ := h
  rw [State.grant_eq, State.grant_eq]
  exact ⟨_, _, rfl⟩

theorem State.SameButMonitor.leave {s v : State} (h : s.SameButMonitor v) (o : Requester) (f : Bool) :
    (s.leave o f).SameButMonitor (v.leave o f) := by
  obtain ⟨c, l, rfl⟩ := h
  rw [State.leave_eq, State.leave_eq]
  exact ⟨_, _, rfl⟩

theorem State.SameButMonitor.handover {s v : State} (h : s.SameButMonitor v) (o : Requester) (f : Bool) :
    (s.handover o f).SameButMonitor (v.handover o f) := by
  have hleft := h.leave o f
  obtain ⟨c, l, rfl⟩ := h
  unfold State.handover
  refine .ite ?_ ⟨c, l, rfl⟩
  rw [State.withMonitor_nextWanting]
  cases s.nextWanting o with
  | none => exact ⟨c, l, rfl⟩
  | some r => exact hleft.grant r

theorem State.SameButMonitor.serve {s v : State} (h : s.SameButMonitor v) (r : Requester) :
    (s.serve r).SameButMonitor (v.serve r) := by
  obtain ⟨c, l, rfl⟩ := h
  exact ⟨c, l, s.serve_withMonitor c l r⟩

theorem State.SameButMonitor.beginLine {s v : State} (h : s.SameButMonitor v) (a : ActiveJob) :
    (s.beginLine a).SameButMonitor (v.beginLine a) := by
  obtain ⟨c, l, rfl⟩ := h
  exact ⟨c, l, s.beginLine_withMonitor c l a⟩

theorem State.SameButMonitor.retire {s v : State} (h : s.SameButMonitor v) (a : ActiveJob) (o : JobOutcome)
    (q : Reason) : (s.retire a o q).SameButMonitor (v.retire a o q) := by
  obtain ⟨c, l, rfl⟩ := h
  exact ⟨c, l, s.retire_withMonitor c l a o q⟩

theorem State.SameButMonitor.completeLine {s v : State} (h : s.SameButMonitor v) (r : LineResult) :
    (s.completeLine r).SameButMonitor (v.completeLine r) := by
  obtain ⟨c, l, rfl⟩ := h
  exact ⟨c, l, s.completeLine_withMonitor c l r⟩

/-- With no owner the arbiter grants the port to the first that wants it, if any (R103). -/
theorem State.arbitrate_unowned (s : State) (n : Nat) (ha : s.wsc.access = none) (ho : s.wpa.owner = none) :
    s.arbitrate (n + 1) = (s.nextWanting s.wpa.lastOwner).elim s fun r => (s.grant r).arbitrate n := by
  conv_lhs => unfold State.arbitrate
  rw [ha, ho]
  cases s.nextWanting s.wpa.lastOwner
  all_goals rfl

/-- The arbiter's work depends on neither the counting flag nor the live counters. -/
theorem State.SameButMonitor.arbitrate (n : Nat) {s v : State} (h : s.SameButMonitor v) :
    (s.arbitrate n).SameButMonitor (v.arbitrate n) := by
  induction n generalizing s v with
  | zero => exact h
  | succ n ih =>
    by_cases ha : s.wsc.access = none
    · cases ho : s.wpa.owner with
      | none =>
        have hgrant (r : Requester) := ih (h.grant r)
        obtain ⟨c, l, rfl⟩ := h
        rw [s.arbitrate_unowned n ha ho, (s.withMonitor c l).arbitrate_unowned n ha ho, State.withMonitor_nextWanting,
          State.withMonitor_lastOwner]
        cases s.nextWanting s.wpa.lastOwner with
        | none => exact ⟨c, l, rfl⟩
        | some r => exact hgrant r
      | some o =>
        obtain ⟨c, l, rfl⟩ := h
        have hafter : (s.afterRelease o).SameButMonitor ((s.withMonitor c l).afterRelease o) :=
          ⟨c, l, s.afterRelease_withMonitor c l o⟩
        have hstopped : (s.afterRelease o).stopIdle.SameButMonitor ((s.withMonitor c l).afterRelease o).stopIdle :=
          ⟨c, l, congrArg State.stopIdle (s.afterRelease_withMonitor c l o)⟩
        rw [s.arbitrate_owner o n ha ho, (s.withMonitor c l).arbitrate_owner o n ha ho,
          State.withMonitor_guaranteeAfter, State.withMonitor_otherWants, State.withMonitor_wants]
        refine .ite (ih (hafter.handover o false)) (.ite (ih (hstopped.serve o)) (.ite ?_ hstopped))
        refine .ite hafter (.ite (ih (hafter.handover o true)) ⟨c, l, ?_⟩)
        rw [State.afterRelease_withMonitor]
        rfl
    · obtain ⟨c, l, rfl⟩ := h
      rw [s.arbitrate_busy _ ha, State.arbitrate_busy _ (s.withMonitor c l) ha]
      exact ⟨c, l, rfl⟩

theorem State.SameButMonitor.settle {s v : State} (h : s.SameButMonitor v) : s.settle.SameButMonitor v.settle :=
  h.arbitrate 8

/-- The tick counts the waits into the live counters alone. -/
theorem State.SameButMonitor.tick {s v : State} (h : s.SameButMonitor v) : s.tick.SameButMonitor v.tick := by
  obtain ⟨c, l, rfl⟩ := h
  have hticked : s.ticked.SameButMonitor (s.withMonitor c l).ticked := by
    rw [State.ticked_eq, State.ticked_eq]
    exact ⟨_, _, rfl⟩
  rcases s.tick_cases with ⟨o, hi, ho, heq⟩ | ⟨hnone, heq⟩
  · rcases (s.withMonitor c l).tick_cases with ⟨o', -, ho', heq'⟩ | ⟨hnone', -⟩
    · obtain rfl : o = o' := Option.some.inj (ho.symm.trans ho')
      rw [heq, heq']
      exact (hticked.handover o true).settle
    · exact absurd (ho.symm.trans (hnone' hi)) nofun
  · rcases (s.withMonitor c l).tick_cases with ⟨o', hi', ho', -⟩ | ⟨-, heq'⟩
    · exact absurd (ho'.symm.trans (hnone hi')) nofun
    · rw [heq, heq']
      exact hticked.settle

/-! ### Answers -/

/-- Two answers that are the same but for the counting flag and the live counters of the next state. -/
inductive SameAnswer : Host.Outcome State Fault Refusal → Host.Outcome State Fault Refusal → Prop
  | next {t u : State} (h : t.SameButMonitor u) : SameAnswer (.next t) (.next u)
  | fault (f : Fault) : SameAnswer (.fault f) (.fault f)
  | refused (r : Refusal) : SameAnswer (.refused r) (.refused r)

theorem SameAnswer.done {u v : State} (h : u.SameButMonitor v) : SameAnswer u.done v.done := by
  obtain ⟨c, l, rfl⟩ := h
  exact .next ⟨c, l, rfl⟩

theorem SameAnswer.ite {p : Prop} [Decidable p] {a b a' b' : Host.Outcome State Fault Refusal}
    (h : SameAnswer a a') (k : SameAnswer b b') : SameAnswer (if p then a else b) (if p then a' else b') := by
  split
  · exact h
  · exact k

/-! ### The Work Store and the Boot Store port -/

theorem State.SameButMonitor.writeWork {s v : State} (h : s.SameButMonitor v) (off : Nat) (sel : Nat → Bool)
    (dat : Nat → Byte) (n : Nat) : (s.writeWork off sel dat n).SameButMonitor (v.writeWork off sel dat n) := by
  obtain ⟨c, l, rfl⟩ := h
  refine ⟨c, l, ?_⟩
  induction n with
  | zero => rfl
  | succ n ih =>
    unfold State.writeWork
    rw [ih, State.withMonitor_ite]
    rfl

theorem State.SameButMonitor.bootNext {s v : State} (h : s.SameButMonitor v) :
    s.bootNext.SameButMonitor v.bootNext := by
  obtain ⟨c, l, rfl⟩ := h
  refine ⟨c, l, ?_⟩
  unfold State.bootNext
  rw [State.withMonitor_bsc]
  cases s.bsc.hostRequest with
  | some off => rfl
  | none => cases s.bsc.engineRequest <;> rfl

theorem State.SameButMonitor.afterDrain {s v : State} (h : s.SameButMonitor v) :
    s.afterDrain.SameButMonitor v.afterDrain := by
  obtain ⟨c, l, rfl⟩ := h
  unfold State.afterDrain
  rw [State.withMonitor_hbi]
  cases s.hbi.cycle with
  | none => exact ⟨c, l, rfl⟩
  | some x =>
    dsimp only
    cases x.stage with
    | awaitDrain => exact .ite ⟨c, l, rfl⟩ ⟨c, l, rfl⟩
    | awaitSlot | awaitBoot | bootAccess | awaitWork | workAccess => exact ⟨c, l, rfl⟩

theorem State.SameButMonitor.abandonAccess {s v : State} (h : s.SameButMonitor v) :
    s.abandonAccess.SameButMonitor v.abandonAccess := by
  have hwrite := h.writeWork
  obtain ⟨c, l, rfl⟩ := h
  unfold State.abandonAccess
  rw [State.withMonitor_wsc, State.withMonitor_hbi, State.withMonitor_amp]
  rcases s.wsc.access with _ | _ | _ | _ | _ | _ | _
  case some.drain =>
    cases s.hbi.buffer with
    | nil => exact ⟨c, l, rfl⟩
    | cons e rest => exact hwrite ..
  case some.hostWrite =>
    cases s.hbi.cycle with
    | none => exact ⟨c, l, rfl⟩
    | some x => exact hwrite ..
  case some.lineWrite => exact hwrite ..
  case some.aux =>
    cases s.amp.cycle with
    | noCycle | answered => exact ⟨c, l, rfl⟩
    | access x => exact .ite (hwrite ..) ⟨c, l, rfl⟩
  all_goals exact ⟨c, l, rfl⟩

theorem State.SameButMonitor.mark {s v : State} (h : s.SameButMonitor v) (off : Offset) (lanes : Lanes) :
    (s.mark off lanes).SameButMonitor (v.mark off lanes) := by
  obtain ⟨c, l, rfl⟩ := h
  exact ⟨c, l, rfl⟩

theorem State.SameButMonitor.endCycle {s v : State} (h : s.SameButMonitor v) (a : HostAnswer) :
    (s.endCycle a).SameButMonitor (v.endCycle a) := by
  obtain ⟨c, l, rfl⟩ := h
  exact ⟨c, l, rfl⟩

/-- The effect of an aux access and its answer (R126, R127). -/
theorem State.SameButMonitor.auxEffect {s v : State} (h : s.SameButMonitor v) (x : AuxCycle) (check : Bool) :
    (s.auxEffect x check).1.SameButMonitor (v.auxEffect x check).1
      ∧ (v.auxEffect x check).2 = (s.auxEffect x check).2 := by
  have hwritten := (h.writeWork x.offset.toNat (carries x.lanes) (getByte x.data) 4).mark x.offset x.lanes
  obtain ⟨c, l, rfl⟩ := h
  unfold State.auxEffect
  cases x.dir with
  | write => exact ⟨hwritten, rfl⟩
  | read => exact ⟨.ite ⟨c, l, rfl⟩ ⟨c, l, rfl⟩, rfl⟩

/-! ### Host cycles -/

section
variable (s : State) (counting : Bool) (live : PerRequester Counters)

theorem State.arriveRoute_withMonitor (c : MemoryCycle) (r : Route) :
    (s.arriveRoute c r).SameButMonitor ((s.withMonitor counting live).arriveRoute c r) := by
  have hwork (off : Offset) (b : Fin 64) (ov : Option (Fin 16)) :
      (s.arriveWork c off b ov).SameButMonitor ((s.withMonitor counting live).arriveWork c off b ov) :=
    .settle ⟨counting, live, rfl⟩
  have hrefused (kind : FaultKind) (b : Fin 64) (fa : FaultAction) (data : Option LaneData) :
      (s.endRefused kind (wordAddr c.ha) c.dir b fa data).SameButMonitor
        ((s.withMonitor counting live).endRefused kind (wordAddr c.ha) c.dir b fa data) := by
    rw [State.endRefused_eq, State.endRefused_eq]
    refine ⟨counting, live, ?_⟩
    split
    all_goals rfl
  cases r with
  | notClaimed => exact ⟨counting, live, rfl⟩
  | discard b fa => exact hrefused _ b fa _
  | closed b fa => exact hrefused _ b fa _
  | bootRead off b => exact .ite ⟨counting, live, rfl⟩ ⟨counting, live, rfl⟩
  | workRead off b ov => exact hwork off b ov
  | workWrite off b ov =>
    exact .ite (.ite (.settle ⟨counting, live, rfl⟩) (.settle ⟨counting, live, rfl⟩)) (hwork off b ov)

theorem execHostMemoryCycleArrival_withMonitor (c : MemoryCycle) :
    SameAnswer (execHostMemoryCycleArrival c s) (execHostMemoryCycleArrival c (s.withMonitor counting live)) := by
  refine .ite (.refused _) (.ite (.fault _) (.ite (.done ⟨counting, live, rfl⟩) (.done ?_)))
  exact State.arriveRoute_withMonitor (s.arrive .memory (wordAddr c.ha) c.dir _) counting live c _

theorem execUnclaimedIoCycle_withMonitor (dir : Direction) (c : IoCycle) :
    SameAnswer (execUnclaimedIoCycle dir c s) (execUnclaimedIoCycle dir c (s.withMonitor counting live)) := by
  refine .ite (.refused _) (.ite (.fault _) (.ite (.done ⟨counting, live, rfl⟩)
    (.ite ?_ (.done ⟨counting, live, rfl⟩))))
  cases dir with
  | read => exact .done ⟨counting, live, rfl⟩
  | write => exact .refused _

end

section
variable (s : State) (counting : Bool) (live : PerRequester Counters)

theorem execUnclaimedCycleEnd_withMonitor :
    SameAnswer (execUnclaimedCycleEnd s) (execUnclaimedCycleEnd (s.withMonitor counting live)) :=
  .ite (.refused _) (.done ⟨counting, live, rfl⟩)

theorem execHostWaitTimeout_withMonitor :
    SameAnswer (execHostWaitTimeout s) (execHostWaitTimeout (s.withMonitor counting live)) := by
  unfold execHostWaitTimeout
  rw [State.withMonitor_hbi]
  cases s.hbi.cycle with
  | none => exact .refused _
  | some c =>
    dsimp only
    cases c.stage.awaited with
    | none => exact .refused _
    | some w => exact .ite (.refused _) (.done (.settle ⟨counting, live, rfl⟩))

theorem execHostBootReadComplete_withMonitor :
    SameAnswer (execHostBootReadComplete s) (execHostBootReadComplete (s.withMonitor counting live)) := by
  unfold execHostBootReadComplete
  rw [State.withMonitor_hbi, State.withMonitor_bsc]
  rcases s.bsc.accessor with _ | b <;> rcases s.hbi.cycle with _ | c
  case some.some =>
    exact .ite (.done (.bootNext ⟨counting, live, rfl⟩)) (.refused _)
  all_goals exact .refused _

theorem execHostWorkReadComplete_withMonitor :
    SameAnswer (execHostWorkReadComplete s) (execHostWorkReadComplete (s.withMonitor counting live)) := by
  by_cases hdue : ∃ check c, s.wsc.access = some (.hostRead check) ∧ s.hbi.cycle = some c
  · obtain ⟨check, c, ha, hc⟩ := hdue
    show SameAnswer (exec .hostWorkReadComplete s) (exec .hostWorkReadComplete _)
    rw [exec_hostWorkReadComplete s c check ha hc,
      exec_hostWorkReadComplete (s.withMonitor counting live) c check ha hc]
    exact .done (.settle ⟨counting, live, rfl⟩)
  · unfold execHostWorkReadComplete
    rw [State.withMonitor_wsc, State.withMonitor_hbi]
    split
    · rename_i check c ha hc
      exact absurd ⟨check, c, ha, hc⟩ hdue
    · exact .refused _

theorem execUnpostedWriteComplete_withMonitor :
    SameAnswer (execUnpostedWriteComplete s) (execUnpostedWriteComplete (s.withMonitor counting live)) := by
  unfold execUnpostedWriteComplete
  rw [State.withMonitor_wsc, State.withMonitor_hbi]
  split
  · exact .done (.settle (.endCycle (.mark (.writeWork ⟨counting, live, rfl⟩ ..) ..) _))
  · exact .refused _

theorem execDrainComplete_withMonitor :
    SameAnswer (execDrainComplete s) (execDrainComplete (s.withMonitor counting live)) := by
  unfold execDrainComplete
  rw [State.withMonitor_wsc, State.withMonitor_hbi]
  split
  · rename_i e rest _ _
    have hwritten := State.SameButMonitor.writeWork (s := s.endAccess) ⟨counting, live, rfl⟩ e.offset.toNat
      (carries e.lanes) (getByte e.data) 4
    obtain ⟨c, l, hwritten⟩ := hwritten
    exact .done (.settle (.afterDrain ⟨c, l,
      congrArg (fun u : State => { u with hbi := { u.hbi with buffer := rest } }) hwritten⟩))
  · exact .refused _

theorem execActivation_withMonitor :
    SameAnswer (execActivation s) (execActivation (s.withMonitor counting live)) := by
  unfold execActivation
  rw [State.withMonitor_txe]
  split
  · exact .ite (.done (.retire ⟨counting, live, rfl⟩ _ _ _))
      (.done (.settle (.beginLine ⟨counting, live, rfl⟩ _)))
  · exact .refused _

theorem execEngineBootReadComplete_withMonitor :
    SameAnswer (execEngineBootReadComplete s) (execEngineBootReadComplete (s.withMonitor counting live)) := by
  unfold execEngineBootReadComplete
  rw [State.withMonitor_bsc]
  cases s.bsc.accessor with
  | none => exact .refused _
  | some b =>
    exact .ite (.ite (.done (.settle (.bootNext ⟨counting, live, rfl⟩)))
      (.done (.settle (.bootNext ⟨counting, live, rfl⟩)))) (.refused _)

theorem execLineWriteComplete_withMonitor :
    SameAnswer (execLineWriteComplete s) (execLineWriteComplete (s.withMonitor counting live)) := by
  unfold execLineWriteComplete
  rw [State.withMonitor_wsc]
  split
  · exact .ite (.done (.settle (.writeWork ⟨counting, live, rfl⟩ ..)))
      (.done (.settle (.completeLine (.writeWork ⟨counting, live, rfl⟩ ..) _)))
  · exact .refused _

theorem execVerifyReadComplete_withMonitor :
    SameAnswer (execVerifyReadComplete s) (execVerifyReadComplete (s.withMonitor counting live)) := by
  unfold execVerifyReadComplete
  rw [State.withMonitor_wsc, State.withMonitor_txe]
  split
  · rename_i off check dropped _
    refine .ite (.done (.settle ⟨counting, live, rfl⟩)) ?_
    split
    · split
      · rename_i a _ _ boot _
        have hfault : (s.withMonitor counting live).verifyFault off check boot a.job.tag
          = s.verifyFault off check boot a.job.tag := rfl
        rw [hfault]
        split
        · exact .done (.settle (.completeLine ⟨counting, live, rfl⟩ _))
        · exact .done (.settle (.completeLine ⟨counting, live, rfl⟩ _))
      · exact .refused _
    · exact .refused _
  · exact .refused _

theorem tick_withMonitor : SameAnswer s.tick.done (s.withMonitor counting live).tick.done :=
  .done (State.SameButMonitor.tick ⟨counting, live, rfl⟩)

theorem execAreqAssert_withMonitor :
    SameAnswer (execAreqAssert s) (execAreqAssert (s.withMonitor counting live)) :=
  .ite (.refused _) (.ite (.done ⟨counting, live, rfl⟩)
    (.done (.settle (.ite ⟨counting, live, rfl⟩ ⟨counting, live, rfl⟩))))

theorem execAreqDeassert_withMonitor :
    SameAnswer (execAreqDeassert s) (execAreqDeassert (s.withMonitor counting live)) :=
  .ite (.refused _) (.ite (.done ⟨counting, live, rfl⟩) (.done (.settle ⟨counting, live, rfl⟩)))

theorem execAuxCycleStart_withMonitor (c : AuxRequest) :
    SameAnswer (execAuxCycleStart c s) (execAuxCycleStart c (s.withMonitor counting live)) := by
  refine .ite (.refused _) (.ite (.done ⟨counting, live, rfl⟩) ?_)
  rw [State.withMonitor_amp]
  split
  · exact .ite (.done ⟨counting, live, rfl⟩) (.ite (.done ⟨counting, live, rfl⟩)
      (.ite (.done ⟨counting, live, rfl⟩) (.done ⟨counting, live, rfl⟩)))
  · exact .refused _

theorem execAuxAccessComplete_withMonitor :
    SameAnswer (execAuxAccessComplete s) (execAuxAccessComplete (s.withMonitor counting live)) := by
  unfold execAuxAccessComplete
  rw [State.withMonitor_wsc, State.withMonitor_amp]
  split
  · rename_i check c _ _
    have hended : s.endAccess.SameButMonitor (s.withMonitor counting live).endAccess := ⟨counting, live, rfl⟩
    obtain ⟨⟨n, l, heffect⟩, hanswer⟩ := hended.auxEffect c check
    generalize s.endAccess.auxEffect c check = x at heffect hanswer ⊢
    generalize (s.withMonitor counting live).endAccess.auxEffect c check = y at heffect hanswer ⊢
    obtain ⟨u, answer⟩ := x
    obtain ⟨v, answer'⟩ := y
    dsimp only at heffect hanswer
    subst heffect hanswer
    exact .done (.settle ⟨n, l, rfl⟩)
  · exact .refused _

theorem execAstbDrop_withMonitor :
    SameAnswer (execAstbDrop s) (execAstbDrop (s.withMonitor counting live)) :=
  .ite (.refused _) (.done ⟨counting, live, rfl⟩)

theorem execAstbAssertionDuringAccess_withMonitor :
    SameAnswer (execAstbAssertionDuringAccess s) (execAstbAssertionDuringAccess (s.withMonitor counting live)) := by
  unfold execAstbAssertionDuringAccess
  rw [State.withMonitor_amp]
  split
  · exact .ite (.refused _) (.done ⟨counting, live, rfl⟩)
  · exact .refused _

theorem execResetAssert_withMonitor :
    SameAnswer (execResetAssert s) (execResetAssert (s.withMonitor counting live)) := by
  obtain ⟨c, l, habandoned⟩ := State.SameButMonitor.abandonAccess (s := s) ⟨counting, live, rfl⟩
  exact .ite (.refused _) (.done ⟨c, l, congrArg State.clearForReset habandoned⟩)

theorem execResetRelease_withMonitor (st : Straps) :
    SameAnswer (execResetRelease st s) (execResetRelease st (s.withMonitor counting live)) :=
  .ite (.done (.settle (.refl (s.release st)))) (.refused _)

theorem execIndexPortWrite_withMonitor (c : IoCycle) :
    SameAnswer (execIndexPortWrite c s) (execIndexPortWrite c (s.withMonitor counting live)) :=
  .ite (.fault _) (.ite (.done ⟨counting, live, rfl⟩) (.refused _))

end

/-! ### Register window writes and commands -/

theorem State.dataWrite_sameAnswer (s : State) (counting : Bool) (live : PerRequester Counters) (c : IoCycle)
    {mine : Byte → Byte → Bool} {effect : Byte → Byte → State → State}
    (heff : ∀ i b u n l, (effect i b u).SameButMonitor (effect i b (u.withMonitor n l))) :
    SameAnswer (s.dataWrite c mine effect) ((s.withMonitor counting live).dataWrite c mine effect) := by
  have hwrite : (s.withMonitor counting live).dataPortWrite c = s.dataPortWrite c := rfl
  unfold State.dataWrite
  refine .ite (.fault _) ?_
  rw [hwrite]
  cases s.dataPortWrite c with
  | none => exact .refused _
  | some w =>
    obtain ⟨n, l, heq⟩ := heff w.1 w.2 (s.openIo c) counting live
    exact .ite (.done ⟨n, l, congrArg (State.answer .readyWrite) heq⟩) (.refused _)

/-- Two replies of a command that are the same but for the counting flag and the live counters. -/
def Reply.SameButMonitor (r q : Reply) : Prop := r.state.SameButMonitor q.state ∧ q.result = r.result ∧ q.arg = r.arg

theorem Reply.SameButMonitor.ite {p : Prop} [Decidable p] {r q r' q' : Reply} (h : r.SameButMonitor r')
    (k : q.SameButMonitor q') : (if p then r else q).SameButMonitor (if p then r' else q') := by
  split
  · exact h
  · exact k

theorem Reply.SameButMonitor.dite {p : Prop} [Decidable p] {r r' : p → Reply} {q q' : ¬ p → Reply}
    (h : ∀ x, (r x).SameButMonitor (r' x)) (k : ∀ x, (q x).SameButMonitor (q' x)) :
    (if x : p then r x else q x).SameButMonitor (if x : p then r' x else q' x) := by
  split
  · exact h _
  · exact k _

theorem State.command_sameAnswer (s : State) (counting : Bool) (live : PerRequester Counters) (c : IoCycle)
    {mine : Byte → Bool} {run : State → Reply} (hrun : ∀ u n l, (run u).SameButMonitor (run (u.withMonitor n l))) :
    SameAnswer (s.command c mine run) ((s.withMonitor counting live).command c mine run) := by
  refine State.dataWrite_sameAnswer s counting live c fun _ b u n l => ?_
  obtain ⟨⟨n', l', hstate⟩, hresult, harg⟩ := hrun u n l
  refine ⟨n', l', ?_⟩
  unfold Reply.record
  rw [hstate, hresult, harg]
  rfl

theorem execRegisterWrite_withMonitor (s : State) (counting : Bool) (live : PerRequester Counters) (c : IoCycle) :
    SameAnswer (execRegisterWrite c s) (execRegisterWrite c (s.withMonitor counting live)) :=
  State.dataWrite_sameAnswer s counting live c fun _ _ _ n l => .ite ⟨n, l, rfl⟩ ⟨n, l, rfl⟩

section
variable (s : State) (counting : Bool) (live : PerRequester Counters)

theorem State.runSetWindow_withMonitor :
    s.runSetWindow.SameButMonitor (s.withMonitor counting live).runSetWindow := by
  have hsame : s.SameButMonitor (s.withMonitor counting live) := ⟨counting, live, rfl⟩
  unfold State.runSetWindow
  refine .ite ⟨hsame, rfl, rfl⟩ ?_
  rw [State.withMonitor_rgw]
  cases flagOfCode s.rgw.staging.window.enable with
  | none => exact ⟨hsame, rfl, rfl⟩
  | some en => exact .ite ⟨⟨counting, live, rfl⟩, rfl, rfl⟩ ⟨hsame, rfl, rfl⟩

theorem State.runCommitRoute_withMonitor :
    s.runCommitRoute.SameButMonitor (s.withMonitor counting live).runCommitRoute := by
  have hsame : s.SameButMonitor (s.withMonitor counting live) := ⟨counting, live, rfl⟩
  have hentry : (s.withMonitor counting live).rgw.staging.route.entry? (s.withMonitor counting live).straps
    = s.rgw.staging.route.entry? s.straps := rfl
  refine .dite (fun _ => .ite ⟨hsame, rfl, rfl⟩ (.ite ⟨hsame, rfl, rfl⟩ ?_)) fun _ => ⟨hsame, rfl, rfl⟩
  rw [hentry]
  cases s.rgw.staging.route.entry? s.straps with
  | none => exact ⟨hsame, rfl, rfl⟩
  | some e => exact ⟨⟨counting, live, rfl⟩, rfl, rfl⟩

theorem State.runLoadRoute_withMonitor :
    s.runLoadRoute.SameButMonitor (s.withMonitor counting live).runLoadRoute :=
  .dite (fun _ => ⟨⟨counting, live, rfl⟩, rfl, rfl⟩) fun _ => ⟨⟨counting, live, rfl⟩, rfl, rfl⟩

theorem State.runCommitOverlay_withMonitor :
    s.runCommitOverlay.SameButMonitor (s.withMonitor counting live).runCommitOverlay := by
  have hsame : s.SameButMonitor (s.withMonitor counting live) := ⟨counting, live, rfl⟩
  have hentry : (s.withMonitor counting live).rgw.staging.overlay.entry? (s.withMonitor counting live).straps
    = s.rgw.staging.overlay.entry? s.straps := rfl
  refine .dite (fun _ => .ite ⟨hsame, rfl, rfl⟩ ?_) fun _ => ⟨hsame, rfl, rfl⟩
  rw [hentry]
  cases s.rgw.staging.overlay.entry? s.straps with
  | none => exact ⟨hsame, rfl, rfl⟩
  | some e => exact ⟨⟨counting, live, rfl⟩, rfl, rfl⟩

theorem State.runLoadOverlay_withMonitor :
    s.runLoadOverlay.SameButMonitor (s.withMonitor counting live).runLoadOverlay :=
  .dite (fun _ => ⟨⟨counting, live, rfl⟩, rfl, rfl⟩) fun _ => ⟨⟨counting, live, rfl⟩, rfl, rfl⟩

theorem State.runSubmitJob_withMonitor :
    s.runSubmitJob.SameButMonitor (s.withMonitor counting live).runSubmitJob := by
  have hsame : s.SameButMonitor (s.withMonitor counting live) := ⟨counting, live, rfl⟩
  refine .ite ⟨hsame, rfl, rfl⟩ ?_
  rw [State.withMonitor_rgw]
  cases s.rgw.staging.job.job? with
  | none => exact ⟨hsame, rfl, rfl⟩
  | some j => exact ⟨⟨counting, live, rfl⟩, rfl, rfl⟩

theorem State.runAbortActive_withMonitor :
    s.runAbortActive.SameButMonitor (s.withMonitor counting live).runAbortActive := by
  unfold State.runAbortActive
  rw [State.withMonitor_txe]
  cases s.txe.engine with
  | idle | draining | retiring | running => exact ⟨⟨counting, live, rfl⟩, rfl, rfl⟩

theorem State.runEngineReset_withMonitor :
    s.runEngineReset.SameButMonitor (s.withMonitor counting live).runEngineReset :=
  ⟨.settle ⟨counting, live, rfl⟩, rfl, rfl⟩

theorem State.runSetAuxWindow_withMonitor :
    s.runSetAuxWindow.SameButMonitor (s.withMonitor counting live).runSetAuxWindow :=
  .ite ⟨⟨counting, live, rfl⟩, rfl, rfl⟩ (.ite ⟨⟨counting, live, rfl⟩, rfl, rfl⟩ ⟨⟨counting, live, rfl⟩, rfl, rfl⟩)

theorem State.runPopFault_withMonitor :
    s.runPopFault.SameButMonitor (s.withMonitor counting live).runPopFault := by
  unfold State.runPopFault
  rw [State.withMonitor_rpu]
  cases s.rpu.faults with
  | nil | cons => exact ⟨⟨counting, live, rfl⟩, rfl, rfl⟩

theorem State.runPopCompletion_withMonitor :
    s.runPopCompletion.SameButMonitor (s.withMonitor counting live).runPopCompletion := by
  unfold State.runPopCompletion
  rw [State.withMonitor_rpu, State.withMonitor_txe]
  cases s.rpu.completions with
  | nil => exact ⟨⟨counting, live, rfl⟩, rfl, rfl⟩
  | cons r rest =>
    cases s.txe.engine with
    | idle | draining | retiring | running => exact ⟨⟨counting, live, rfl⟩, rfl, rfl⟩

theorem State.runCommitSelect_withMonitor :
    s.runCommitSelect.SameButMonitor (s.withMonitor counting live).runCommitSelect := by
  have hsame : s.SameButMonitor (s.withMonitor counting live) := ⟨counting, live, rfl⟩
  have hrecord : (s.withMonitor counting live).rgw.staging.select.record? = s.rgw.staging.select.record? := rfl
  refine .dite (fun _ => ?_) fun _ => ⟨hsame, rfl, rfl⟩
  rw [hrecord]
  cases s.rgw.staging.select.record? with
  | none => exact ⟨hsame, rfl, rfl⟩
  | some r => exact ⟨⟨counting, live, rfl⟩, rfl, rfl⟩

theorem State.runLoadSelect_withMonitor :
    s.runLoadSelect.SameButMonitor (s.withMonitor counting live).runLoadSelect :=
  .dite (fun _ => ⟨⟨counting, live, rfl⟩, rfl, rfl⟩) fun _ => ⟨⟨counting, live, rfl⟩, rfl, rfl⟩

theorem State.runSetPorts_withMonitor :
    s.runSetPorts.SameButMonitor (s.withMonitor counting live).runSetPorts :=
  .ite ⟨⟨counting, live, rfl⟩, rfl, rfl⟩ ⟨⟨counting, live, rfl⟩, rfl, rfl⟩

end

/-! ### Every command -/

/-- Every command but SNAPSHOT_MONITOR answers the same with other monitor values. -/
theorem exec_withMonitor (i : Instr) (s : State) (counting : Bool) (live : PerRequester Counters)
    (hi : ∀ c, i ≠ .snapshotMonitor c) : SameAnswer (exec i s) (exec i (s.withMonitor counting live)) := by
  cases i with
  | hostMemoryCycleArrival c => exact execHostMemoryCycleArrival_withMonitor s counting live c
  | unclaimedIoCycle dir c => exact execUnclaimedIoCycle_withMonitor s counting live dir c
  | unclaimedCycleEnd => exact execUnclaimedCycleEnd_withMonitor s counting live
  | hostWaitTimeout => exact execHostWaitTimeout_withMonitor s counting live
  | hostBootReadComplete => exact execHostBootReadComplete_withMonitor s counting live
  | hostWorkReadComplete => exact execHostWorkReadComplete_withMonitor s counting live
  | unpostedWriteComplete => exact execUnpostedWriteComplete_withMonitor s counting live
  | drainComplete => exact execDrainComplete_withMonitor s counting live
  | activation => exact execActivation_withMonitor s counting live
  | engineBootReadComplete => exact execEngineBootReadComplete_withMonitor s counting live
  | lineWriteComplete => exact execLineWriteComplete_withMonitor s counting live
  | verifyReadComplete => exact execVerifyReadComplete_withMonitor s counting live
  | arbiterTick => exact tick_withMonitor s counting live
  | guaranteeExpiry => exact .ite (tick_withMonitor s counting live) (.refused _)
  | idleExpiry => exact .ite (tick_withMonitor s counting live) (.refused _)
  | areqAssert => exact execAreqAssert_withMonitor s counting live
  | areqDeassert => exact execAreqDeassert_withMonitor s counting live
  | auxCycleStart c => exact execAuxCycleStart_withMonitor s counting live c
  | auxAccessComplete => exact execAuxAccessComplete_withMonitor s counting live
  | astbDrop => exact execAstbDrop_withMonitor s counting live
  | astbAssertionDuringAccess => exact execAstbAssertionDuringAccess_withMonitor s counting live
  | resetAssert => exact execResetAssert_withMonitor s counting live
  | resetRelease st => exact execResetRelease_withMonitor s counting live st
  | indexPortWrite c => exact execIndexPortWrite_withMonitor s counting live c
  | registerWrite c => exact execRegisterWrite_withMonitor s counting live c
  | stagingWrite c =>
    show SameAnswer (execStagingWrite c s) (execStagingWrite c _)
    exact s.dataWrite_sameAnswer counting live c fun _ _ _ n l => ⟨n, l, rfl⟩
  | postingEnableWrite c =>
    show SameAnswer (execPostingEnableWrite c s) (execPostingEnableWrite c _)
    exact s.dataWrite_sameAnswer counting live c fun _ _ _ n l => ⟨n, l, rfl⟩
  | hostWaitLimitWrite c =>
    show SameAnswer (execHostWaitLimitWrite c s) (execHostWaitLimitWrite c _)
    exact s.dataWrite_sameAnswer counting live c fun _ _ _ n l => ⟨n, l, rfl⟩
  | parityTerminationWrite c =>
    show SameAnswer (execParityTerminationWrite c s) (execParityTerminationWrite c _)
    exact s.dataWrite_sameAnswer counting live c fun _ _ _ n l => ⟨n, l, rfl⟩
  | parityCheckEnableWrite c =>
    show SameAnswer (execParityCheckEnableWrite c s) (execParityCheckEnableWrite c _)
    exact s.dataWrite_sameAnswer counting live c fun _ _ _ n l => ⟨n, l, rfl⟩
  | bootAccessTimeWrite c =>
    show SameAnswer (execBootAccessTimeWrite c s) (execBootAccessTimeWrite c _)
    exact s.dataWrite_sameAnswer counting live c fun _ _ _ n l => ⟨n, l, rfl⟩
  | guaranteeWrite c =>
    show SameAnswer (execGuaranteeWrite c s) (execGuaranteeWrite c _)
    exact s.dataWrite_sameAnswer counting live c fun _ _ _ n l => ⟨n, l, rfl⟩
  | idleWindowWrite c =>
    show SameAnswer (execIdleWindowWrite c s) (execIdleWindowWrite c _)
    exact s.dataWrite_sameAnswer counting live c fun _ _ _ n l => ⟨n, l, rfl⟩
  | interruptMaskWrite c =>
    show SameAnswer (execInterruptMaskWrite c s) (execInterruptMaskWrite c _)
    exact s.dataWrite_sameAnswer counting live c fun _ _ _ n l => ⟨n, l, rfl⟩
  | setWindow c => exact s.command_sameAnswer counting live c State.runSetWindow_withMonitor
  | commitRoute c => exact s.command_sameAnswer counting live c State.runCommitRoute_withMonitor
  | loadRoute c => exact s.command_sameAnswer counting live c State.runLoadRoute_withMonitor
  | commitOverlay c => exact s.command_sameAnswer counting live c State.runCommitOverlay_withMonitor
  | loadOverlay c => exact s.command_sameAnswer counting live c State.runLoadOverlay_withMonitor
  | submitJob c => exact s.command_sameAnswer counting live c State.runSubmitJob_withMonitor
  | abortActive c => exact s.command_sameAnswer counting live c State.runAbortActive_withMonitor
  | engineReset c => exact s.command_sameAnswer counting live c State.runEngineReset_withMonitor
  | setAuxWindow c => exact s.command_sameAnswer counting live c State.runSetAuxWindow_withMonitor
  | popFault c => exact s.command_sameAnswer counting live c State.runPopFault_withMonitor
  | popCompletion c => exact s.command_sameAnswer counting live c State.runPopCompletion_withMonitor
  | commitSelect c => exact s.command_sameAnswer counting live c State.runCommitSelect_withMonitor
  | loadSelect c => exact s.command_sameAnswer counting live c State.runLoadSelect_withMonitor
  | setPorts c => exact s.command_sameAnswer counting live c State.runSetPorts_withMonitor
  | lockRouting c | flushQueued c | monitorStart c | monitorStop c | clearOverflow c =>
    refine s.command_sameAnswer counting live c ?_
    exact fun _ n l => ⟨⟨_, _, rfl⟩, rfl, rfl⟩
  | unknownCommand c =>
    show SameAnswer (execUnknownCommand c s) (execUnknownCommand c _)
    exact s.command_sameAnswer counting live c fun _ n l => ⟨⟨n, l, rfl⟩, rfl, rfl⟩
  | snapshotMonitor c => exact absurd rfl (hi c)

/-- Settles O16: no command but SNAPSHOT_MONITOR reads the counting flag or the live counters, but to count. -/
theorem usageMonitorOnlyWatches : Obligations.UsageMonitorOnlyWatches := by
  intro i s t counting live hi h
  have hsame := exec_withMonitor i s counting live hi
  rw [h] at hsame
  generalize exec i (s.withMonitor counting live) = answer at hsame ⊢
  cases hsame with
  | next hnext =>
    obtain ⟨counting', live', rfl⟩ := hnext
    exact ⟨counting', live', rfl⟩

end Sys2Proof.Machine
end

section
/-! PROOF. The Auxiliary Master Port: its lines between cycles (O55), the start of an aux cycle (O56), and the completion
of its access (O57, family 07_auxiliary_master_port.md). -/

namespace Sys2Proof.Machine

/-! ### Failing lanes, driven words and faults on a condition -/

/-- A lane fails where it is carried and its byte fails its check. -/
theorem State.failingLanes_getLsbD (s : State) (off : Offset) (lanes : Lanes) (k : Nat) (hk : k < 4) :
    (s.failingLanes off lanes).getLsbD k = (carries lanes k && s.parityFails (off.toNat + k)) :=
  lines4_getLsbD (fun j => carries lanes j.val && s.parityFails (off.toNat + j.val)) ⟨k, hk⟩

/-- Byte `k` of the word an aux read drives. -/
theorem getByte_auxReadData (lanes : Lanes) (f : Nat → Byte) (k : Nat) (hk : k < 4) :
    getByte (auxReadData lanes f) k = if carries lanes k then f k else 0xFF#8 :=
  getByte_wordOf _ k hk

/-- A fault handed over on a condition changes the Reporting Unit alone. -/
theorem State.handFault_unless (s : State) (p : Prop) [Decidable p] (f : FaultRecord) :
    (if p then s else s.handFault f) = { s with rpu := if p then s.rpu else s.rpu.takeFault f } := by
  split
  all_goals rfl

/-! ### The lines AREQ and ASTB -/

/-- The state with the level of AREQ replaced. -/
def State.withAreq (level : Bool) (s : State) : State := { s with amp := { s.amp with areq := level } }

/-- The state with the level of ASTB replaced. -/
def State.withAstb (level : Bool) (s : State) : State := { s with amp := { s.amp with astb := level } }

/-- What AUX's resumption changes is the idle timer alone (R107). -/
theorem State.resumeAux_eq (s : State) :
    s.resumeAux = { s with wpa := { s.wpa with
      idle := if s.wpa.owner = some .aux ∧ s.wsc.access = none then .stopped else s.wpa.idle } } := by
  unfold State.resumeAux
  split
  all_goals rfl

/-- AREQ rises outside reset: AUX resumes and the port is settled (R122, R107). -/
theorem exec_areqAssert_running (s : State) (ha : s.amp.areq = false) (hr : s.inReset = false) :
    exec .areqAssert s = (s.withAreq true).resumeAux.settle.done :=
  (if_neg (by simp [ha])).trans (if_neg (by simp [hr]))

/-- AREQ falls outside reset: the port is settled (R107). -/
theorem exec_areqDeassert_running (s : State) (ha : s.amp.areq = true) (hr : s.inReset = false) :
    exec .areqDeassert s = (s.withAreq false).settle.done :=
  (if_neg (by simp [ha])).trans (if_neg (by simp [hr]))

/-- AREQ rises while RESET is asserted: its level alone is taken (log entry 13). -/
theorem exec_areqAssert_inReset (s : State) (ha : s.amp.areq = false) (hr : s.inReset = true) :
    exec .areqAssert s = (s.withAreq true).done :=
  (if_neg (by simp [ha])).trans (if_pos hr)

/-- AREQ falls while RESET is asserted: its level alone is taken (log entry 13). -/
theorem exec_areqDeassert_inReset (s : State) (ha : s.amp.areq = true) (hr : s.inReset = true) :
    exec .areqDeassert s = (s.withAreq false).done :=
  (if_neg (by simp [ha])).trans (if_pos hr)

/-- ASTB rises during an access: no second cycle starts (R128). -/
theorem exec_astbAssertionDuringAccess (s : State) (x : AuxCycle) (hc : s.amp.cycle = .access x)
    (hb : s.amp.astb = false) : exec .astbAssertionDuringAccess s = (s.withAstb true).done := by
  show execAstbAssertionDuringAccess s = _
  unfold execAstbAssertionDuringAccess
  rw [hc]
  exact if_neg (by simp [hb])

/-- ASTB rises while RESET is asserted: its level alone is taken (log entry 13). -/
theorem exec_auxCycleStart_inReset (s : State) (c : AuxRequest) (hb : s.amp.astb = false) (hr : s.inReset = true) :
    exec (.auxCycleStart c) s = (s.withAstb true).done :=
  (if_neg (by simp [hb])).trans (if_pos hr)

/-- Settles O55: each edge of AREQ outside and inside reset, then those of ASTB. -/
theorem auxLinesChangeWantAndHandshake : Obligations.AuxLinesChangeWantAndHandshake := by
  refine ⟨fun s ha hr => ?rise, exec_areqDeassert_running, exec_areqAssert_inReset, exec_areqDeassert_inReset,
    fun s hb => ?drop, exec_astbAssertionDuringAccess, exec_auxCycleStart_inReset⟩
  case rise =>
    rw [exec_areqAssert_running s ha hr, State.resumeAux_eq]
    rfl
  case drop => exact if_neg (by simp [hb])

/-! ### The start of an aux cycle -/

/-- The aux cycle that a request starts: what the AMP samples of it (R123, log entry 15). -/
def sampledCycle (c : AuxRequest) : AuxCycle :=
  { offset := auxOffset c.aa, dir := c.dir, lanes := c.lanes
    data := if c.dir = .write then carriedData c.lanes c.data else 0#32 }

/-- The Work Store access of an aux cycle starts (R126). -/
def State.startAux (x : AuxCycle) (s : State) : State :=
  { s.startAccess (.aux s.wsc.parityCheck) with amp := { s.amp with cycle := .access x } }

/-- An aux cycle is refused in its start event, with a record of the reason (R124, R125). -/
def State.refuseAux (x : AuxCycle) (kind : FaultKind) (s : State) : State :=
  (s.handFault (auxFault kind x.offset x.dir)).answerAux x true

/-- The aux window holds the offsets from its base to the end of the page at its limit (R121, R125). -/
theorem Amp.inWindow_iff (a : Amp) (off : Offset) :
    a.inWindow off = true ↔ a.windowBase.toNat ≤ off.toNat ∧ off.toNat < a.windowLimit.toNat + 0x1000 := by
  unfold Amp.inWindow
  rw [Bool.and_eq_true, decide_eq_true_eq, decide_eq_true_eq]
  rfl

/-- An aux cycle that starts outside reset with none in progress goes through the four decisions of R123. -/
theorem exec_auxCycleStart (s : State) (c : AuxRequest) (hb : s.amp.astb = false) (hr : s.inReset = false)
    (hc : s.amp.cycle = .noCycle) :
    exec (.auxCycleStart c) s =
      if s.pins.agnt = false then ((s.withAstb true).refuseAux (sampledCycle c) .auxUngranted).done
      else if c.lanes = 0#4 then ((s.withAstb true).answerAux (sampledCycle c) false).done
      else if s.amp.inWindow (auxOffset c.aa) = false then ((s.withAstb true).refuseAux (sampledCycle c) .auxRange).done
      else ((s.withAstb true).startAux (sampledCycle c)).done := by
  show execAuxCycleStart c s = _
  unfold execAuxCycleStart
  rw [if_neg (by simp [hb]), if_neg (by simp [hr]), hc]
  rfl

/-- Settles O56: each decision in turn, where the ones before it have let the cycle pass. -/
theorem auxCycleStartIsDecidedInOrder : Obligations.AuxCycleStartIsDecidedInOrder := by
  intro s c hb hr hc
  refine ⟨carriedData c.lanes c.data, fun k hk => getByte_carriedData c.lanes c.data k hk, ?_⟩
  intro off x fault answered inside
  have hinside : s.amp.inWindow (auxOffset c.aa) = true ↔ inside := s.amp.inWindow_iff off
  rw [exec_auxCycleStart s c hb hr hc]
  refine ⟨fun hg => ?ungranted, fun hg hl => ?noLane, fun hg hl hi => ?outside, fun hg hl hi => ?access⟩
  case ungranted =>
    rw [if_pos hg]
    rfl
  case noLane =>
    rw [if_neg (by simp [hg]), if_pos hl]
    rfl
  case outside =>
    rw [if_neg (by simp [hg]), if_neg hl, if_pos (Bool.eq_false_iff.mpr fun hw => hi (hinside.mp hw))]
    rfl
  case access =>
    rw [if_neg (by simp [hg]), if_neg hl, if_neg (by rw [hinside.mpr hi]; decide)]
    rfl

/-! ### The completion of an aux access -/

/-- The aux cycle ends its access: it is answered where ASTB is asserted, and otherwise forgotten (R128). -/
def State.endAux (x : AuxCycle) (answer : AuxAnswer) (s : State) : State :=
  { s with amp := { s.amp with cycle := if s.amp.astb then .answered x answer else .noCycle } }

theorem ButWork.endAux {s t : State} (h : ButWork s t) (x : AuxCycle) (answer : AuxAnswer) :
    ButWork (s.endAux x answer) (t.endAux x answer) := by
  unfold ButWork at h ⊢
  rw [h]
  rfl

/-- An aux access completes: its effect, its answer, and the settling of the port (R126 to R128). -/
theorem exec_auxAccessComplete (s : State) (x : AuxCycle) (check : Bool) (ha : s.wsc.access = some (.aux check))
    (hc : s.amp.cycle = .access x) :
    exec .auxAccessComplete s
      = ((s.endAccess.auxEffect x check).1.endAux x (s.endAccess.auxEffect x check).2).settle.done := by
  show execAuxAccessComplete s = _
  unfold execAuxAccessComplete
  rw [ha, hc]
  rfl

/-- An aux write writes its carried lanes and marks the map (R126). -/
theorem State.auxEffect_write (s : State) (x : AuxCycle) (check : Bool) (hd : x.dir = .write) :
    s.auxEffect x check
      = ((s.writeLanes x.offset x.lanes x.data).mark x.offset x.lanes, { error := false, data := none }) := by
  unfold State.auxEffect
  rw [hd]

/-- The carried lanes of an aux read that disagree with their parity, while the check is on (R127). -/
def State.badAuxLanes (s : State) (x : AuxCycle) (check : Bool) : Lanes :=
  if check then s.failingLanes x.offset x.lanes else 0#4

theorem State.badAuxLanes_getLsbD (s : State) (x : AuxCycle) (check : Bool) (k : Nat) (hk : k < 4) :
    (s.badAuxLanes x check).getLsbD k = true ↔ check = true ∧ carries x.lanes k = true
      ∧ ¬ OddParity (Memory.read s.work (x.offset.toNat + k)) (ParityBits.read s.workParity (x.offset.toNat + k)) := by
  rw [← parityFails_iff]
  cases check with
  | false => simp [State.badAuxLanes]
  | true =>
    rw [State.badAuxLanes, if_pos rfl, s.failingLanes_getLsbD x.offset x.lanes k hk]
    simp

/-- The word an aux read drives: the stored bytes on the carried lanes and 0xFF on the others (R126). -/
def State.auxWord (s : State) (x : AuxCycle) : Word :=
  auxReadData x.lanes fun k => Memory.read s.work (x.offset.toNat + k)

/-- An aux read drives its word and reports the lanes that fail (R126, R127). -/
theorem State.auxEffect_read (s : State) (x : AuxCycle) (check : Bool) (hd : x.dir = .read) :
    s.auxEffect x check
      = ({ s with rpu := if s.badAuxLanes x check = 0#4 then s.rpu
            else s.rpu.takeFault { auxFault .workParity x.offset .read with lanes := some (s.badAuxLanes x check) } },
          { error := decide (s.badAuxLanes x check ≠ 0#4), data := some (s.auxWord x) }) := by
  unfold State.auxEffect
  rw [hd]
  exact congrArg (fun u : State => (u, _)) (s.handFault_unless ..)

/-- Settles O57: a write's lanes go into the store; a read's word and failing lanes are fixed byte by byte. -/
theorem auxAccessWritesOrReturnsBytes : Obligations.AuxAccessWritesOrReturnsBytes := by
  intro s x check ha hc after
  rw [exec_auxAccessComplete s x check ha hc]
  refine ⟨fun hcanon hd => ?write, fun bad data hd hbits hbytes => ?read⟩
  case write =>
    obtain ⟨-, hwork, hparity, -⟩ := hcanon
    rw [State.auxEffect_write _ x check hd]
    have hbut : ButWork s.endAccess (s.endAccess.writeLanes x.offset x.lanes x.data) := State.writeWork_butWork ..
    exact ⟨_, (hbut.mark x.offset x.lanes).endAux x { error := false, data := none },
      State.writeWork_written x.offset.toNat (carries x.lanes) (getByte x.data) 4 s.endAccess hwork hparity, rfl⟩
  case read =>
    have hbad : s.endAccess.badAuxLanes x check = bad := by
      refine BitVec.eq_of_getLsbD_eq fun k hk => ?_
      rw [Bool.eq_iff_iff, State.badAuxLanes_getLsbD _ x check k hk, hbits k hk]
      rfl
    have hdata : s.endAccess.auxWord x = data :=
      word_ext _ _ fun k hk => (getByte_auxReadData x.lanes _ k hk).trans (hbytes k hk).symm
    rw [State.auxEffect_read _ x check hd, hbad, hdata]
    rfl

end Sys2Proof.Machine
end

section
/-! PROOF. The Reporting Unit: how it takes a fault (O58), and the commands that pop and clear its queues (O33, O34,
family 08_fault_and_completion_reporting.md). -/

namespace Sys2Proof.Machine

/-! ### A fault taken -/

/-- The test the Reporting Unit makes of its newest record, in the terms of R136. -/
theorem FaultRecord.coalesces_iff (n f : FaultRecord) :
    (n.agrees f && decide (n.repeats ≠ 255#8)) = true
      ↔ n.kind = f.kind ∧ n.source = f.source ∧ n.address = f.address ∧ n.repeats.toNat < 255 := by
  have hmax : n.repeats ≠ 255#8 ↔ n.repeats.toNat < 255 := by bv_omega
  simp only [FaultRecord.agrees, Bool.and_eq_true, decide_eq_true_eq, hmax, and_assoc]

/-- A newest record that agrees with the fault and has repeats to spare takes it as one repeat more (R136). -/
theorem Rpu.takeFault_coalesced (u : Rpu) (f : FaultRecord) (older : List FaultRecord) (newest : FaultRecord)
    (hu : u.faults = older ++ [newest]) (hn : (newest.agrees f && decide (newest.repeats ≠ 255#8)) = true) :
    u.takeFault f = { u with faults := older ++ [{ newest with repeats := newest.repeats + 1#8 }] } := by
  have hlast : u.faults.getLast? = some newest := by rw [hu, List.getLast?_concat]
  unfold Rpu.takeFault
  rw [hlast]
  refine (if_pos hn).trans ?_
  rw [hu, List.dropLast_concat]

/-- A fault that no newest record takes is appended while the queue has room, and is lost otherwise (R136, R138). -/
theorem Rpu.takeFault_not_coalesced (u : Rpu) (f : FaultRecord)
    (h : ∀ newest, u.faults.getLast? = some newest → ¬ (newest.agrees f && decide (newest.repeats ≠ 255#8)) = true) :
    u.takeFault f = if u.faults.length < 8 then { u with faults := u.faults ++ [{ f with repeats := 1#8 }] }
      else { u with overflow := true, lost := if u.lost = 255#8 then 255#8 else u.lost + 1#8 } := by
  cases hlast : u.faults.getLast? with
  | none =>
    have hnil : u.faults = [] := List.getLast?_eq_none_iff.mp hlast
    simp [u.takeFault_empty f hnil, hnil]
  | some newest =>
    unfold Rpu.takeFault
    rw [hlast]
    exact if_neg (h newest hlast)

/-- Settles O58: the newest record takes the fault, or does not, and then the room in the queue decides. -/
theorem faultsCoalesceAppendOrAreLost : Obligations.FaultsCoalesceAppendOrAreLost := by
  intro u f
  refine ⟨fun older newest hu hkind hsource haddress hrepeats => ?coalesced, fun h => ?rest⟩
  case coalesced =>
    have hn := (newest.coalesces_iff f).mpr ⟨hkind, hsource, haddress, hrepeats⟩
    exact u.takeFault_coalesced f older newest hu hn
  case rest =>
    have htake := u.takeFault_not_coalesced f fun newest hlast hn => h newest hlast ((newest.coalesces_iff f).mp hn)
    exact ⟨fun hroom => htake.trans (if_pos hroom), fun hfull => htake.trans (if_neg (Nat.not_lt.mpr hfull))⟩

/-! ### POP_FAULT and CLEAR_OVERFLOW -/

theorem State.runPopFault_empty (s : State) (h : s.rpu.faults = []) :
    s.runPopFault = { state := s, result := .empty } := by
  unfold State.runPopFault
  rw [h]

theorem State.runPopFault_pops (s : State) (oldest : FaultRecord) (rest : List FaultRecord)
    (h : s.rpu.faults = oldest :: rest) :
    s.runPopFault = { state := { s with rpu := { s.rpu with faults := rest } }, result := .ok } := by
  unfold State.runPopFault
  rw [h]

/-- Settles O33: POP_FAULT by whether the Fault Queue holds a record; CLEAR_OVERFLOW has one case. -/
theorem faultCommandsPopAndClear : Obligations.FaultCommandsPopAndClear := by
  intro s c
  refine ⟨fun h => ?pop, fun h => ?clear⟩
  case pop =>
    show s.command c _ State.runPopFault = _
    cases hf : s.rpu.faults with
    | nil => exact State.command_refuses _ _ _ _ _ _ h rfl (State.runPopFault_empty _ hf)
    | cons oldest rest =>
      exact State.command_windowWritten _ _ _ _ _ _ _ _ h rfl (State.runPopFault_pops (s.openIo c) oldest rest hf) rfl
  case clear => exact State.command_windowWritten s c _ State.runClearOverflow _ _ _ _ h rfl rfl rfl

/-! ### POP_COMPLETION -/

theorem State.runPopCompletion_empty (s : State) (h : s.rpu.completions = []) :
    s.runPopCompletion = { state := s, result := .empty } := by
  unfold State.runPopCompletion
  rw [h]

/-- In RETIRING the held record takes the place that the removed one leaves (R79, R147). -/
theorem State.runPopCompletion_pulls (s : State) (oldest held : CompletionRecord) (rest : List CompletionRecord)
    (h : s.rpu.completions = oldest :: rest) (he : s.txe.engine = .retiring held) :
    s.runPopCompletion
      = { state := { s with rpu := { s.rpu with completions := rest ++ [held] }
                            txe := { s.txe with engine := .idle } }
          result := .ok } := by
  unfold State.runPopCompletion
  rw [h, he]

theorem State.runPopCompletion_pops (s : State) (oldest : CompletionRecord) (rest : List CompletionRecord)
    (h : s.rpu.completions = oldest :: rest) (he : ∀ held, s.txe.engine ≠ .retiring held) :
    s.runPopCompletion = { state := { s with rpu := { s.rpu with completions := rest } }, result := .ok } := by
  unfold State.runPopCompletion
  rw [h]
  dsimp only
  split
  · exact absurd ‹_› (he _)
  · rfl

/-- Settles O34: by whether the Completion List holds a record, and then by the engine's state. -/
theorem popCompletionPullsHeldRecord : Obligations.PopCompletionPullsHeldRecord := by
  intro s c h
  show s.command c _ State.runPopCompletion = _
  cases hl : s.rpu.completions with
  | nil => exact State.command_refuses _ _ _ _ _ _ h rfl (State.runPopCompletion_empty _ hl)
  | cons oldest rest =>
    cases he : s.txe.engine with
    | retiring held =>
      exact State.command_windowWritten _ _ _ _ _ _ _ _ h rfl
        (State.runPopCompletion_pulls (s.openIo c) oldest held rest hl he) rfl
    | idle | running | draining =>
      have hpops := State.runPopCompletion_pops (s.openIo c) oldest rest hl fun _ e => by cases he.symm.trans e
      exact State.command_windowWritten _ _ _ _ _ _ _ _ h rfl hpops rfl

end Sys2Proof.Machine
end

section
/-! PROOF. COMMIT_SELECT: its checks in order and the record it commits (O28, family 09_select_lines.md). -/

namespace Sys2Proof.Machine

/-! ### The fields of a select staging record -/

/-- A byte names the select space whose code it is. -/
theorem Space.ofCode_eq_some_iff (b : Byte) (sp : Space) : Space.ofCode b = some sp ↔ sp.code = b := by
  revert b
  cases sp <;> decide

/-- A byte names the select qualifier whose code it is. -/
theorem Qualifier.ofCode_eq_some_iff (b : Byte) (q : Qualifier) : Qualifier.ofCode b = some q ↔ q.code = b := by
  revert b
  cases q <;> decide

/-- A byte names the select polarity whose code it is. -/
theorem Polarity.ofCode_eq_some_iff (b : Byte) (p : Polarity) : Polarity.ofCode b = some p ↔ p.code = b := by
  revert b
  cases p <;> decide

theorem Space.ofCode_isSome_iff (b : Byte) : (∃ sp, Space.ofCode b = some sp) ↔ b.toNat ≤ 1 := by
  rw [← Option.isSome_iff_exists]
  revert b
  decide

theorem Qualifier.ofCode_isSome_iff (b : Byte) : (∃ q, Qualifier.ofCode b = some q) ↔ b.toNat ≤ 2 := by
  rw [← Option.isSome_iff_exists]
  revert b
  decide

theorem Polarity.ofCode_isSome_iff (b : Byte) : (∃ p, Polarity.ofCode b = some p) ↔ b.toNat ≤ 1 := by
  rw [← Option.isSome_iff_exists]
  revert b
  decide

/-- The conditions of Table 9-1 on size and base, the space given by its code. -/
theorem validRange_iff (sp : Space) (code : BitVec 5) (base : HostAddr) :
    validRange sp code base = true ↔ 4 ≤ code.toNat ∧ code.toNat ≤ (if sp.code = 0#8 then 24 else 12)
      ∧ base.toNat % 2 ^ code.toNat = 0 ∧ (sp.code = 1#8 → base.toNat < 0x10000) := by
  cases sp <;> simp [validRange, validSizeCode, Space.code, and_assoc]

/-- The fields of a select staging record that a commit takes pass their checks (R157, step 2). -/
def SelectStaging.FieldsPass (r : SelectStaging) : Prop :=
  r.enabled.toNat ≤ 1 ∧ r.space.toNat ≤ 1 ∧ r.qualifier.toNat ≤ 2 ∧ r.polarity.toNat ≤ 1
    ∧ r.unclaimedOnly.toNat ≤ 1 ∧ 4 ≤ r.sizeCode.toNat
    ∧ r.sizeCode.toNat ≤ (if r.space = 0#8 then 24 else 12)
    ∧ r.base.toNat % 2 ^ r.sizeCode.toNat = 0 ∧ (r.space = 1#8 → r.base.toNat < 0x10000)

/-- A select staging record stages a record exactly where its fields pass. -/
theorem SelectStaging.fieldsPass_iff (r : SelectStaging) : r.FieldsPass ↔ ∃ e, r.record? = some e := by
  unfold SelectStaging.FieldsPass SelectStaging.record?
  rw [← flagOfCode_isSome_iff, ← Space.ofCode_isSome_iff, ← Qualifier.ofCode_isSome_iff,
    ← Polarity.ofCode_isSome_iff, ← flagOfCode_isSome_iff]
  rcases flagOfCode r.enabled with _ | en
  · simp
  rcases hsp : Space.ofCode r.space with _ | sp
  · simp
  rcases Qualifier.ofCode r.qualifier with _ | q
  · simp
  rcases Polarity.ofCode r.polarity with _ | p
  · simp
  rcases flagOfCode r.unclaimedOnly with _ | u
  · simp
  rw [Space.ofCode_eq_some_iff] at hsp
  simp [← hsp, ← validRange_iff]

/-- The record a select staging record stages holds the record's seven fields (R157, step 3). -/
theorem SelectStaging.record?_staged {r : SelectStaging} {e : SelectRecord} (h : r.record? = some e) :
    e.staged = r := by
  unfold SelectStaging.record? at h
  split at h
  · rename_i en sp q p u hen hsp hq hp hu
    split at h
    · simp only [Option.some.injEq] at h
      subst h
      rw [flagOfCode_eq_some_iff] at hen hu
      rw [Space.ofCode_eq_some_iff] at hsp
      rw [Qualifier.ofCode_eq_some_iff] at hq
      rw [Polarity.ofCode_eq_some_iff] at hp
      simp only [SelectRecord.staged, hen, hsp, hq, hp, hu]
    · cases h
  · cases h

/-! ### What the rule of COMMIT_SELECT answers -/

theorem State.runCommitSelect_badField (s : State) (hn : s.rgw.argument.toNat < 4)
    (he : s.rgw.staging.select.record? = none) : s.runCommitSelect = { state := s, result := .badField } := by
  unfold State.runCommitSelect
  rw [dif_pos hn, he]

theorem State.runCommitSelect_ok (s : State) (hn : s.rgw.argument.toNat < 4) (e : SelectRecord)
    (he : s.rgw.staging.select.record? = some e) :
    s.runCommitSelect
      = { state := { s with sdc := { s.sdc with records := s.sdc.records.set s.rgw.argument.toNat e hn } }
          result := .ok } := by
  unfold State.runCommitSelect
  rw [dif_pos hn, he]

/-- Settles O28: the checks of R157 in turn; the record the staging record stages exists exactly where its fields pass,
and loading it back gives the staged fields. -/
theorem commitSelectChecksThenReplaces : Obligations.CommitSelectChecksThenReplaces := by
  intro s c h n r fields
  have hfields : fields ↔ ∃ e, r.record? = some e := r.fieldsPass_iff
  refine ⟨fun hn => ?badIndex, fun hn => ⟨fun hf => ?badField, fun hf => ?ok⟩⟩
  case badIndex =>
    exact State.command_refuses _ _ _ State.runCommitSelect _ _ h rfl (dif_neg (Nat.not_lt.mpr hn))
  case badField =>
    have hnone : r.record? = none := by
      rw [← Option.not_isSome_iff_eq_none, Option.isSome_iff_exists, ← hfields]
      exact hf
    exact State.command_refuses _ _ _ _ _ _ h rfl (State.runCommitSelect_badField _ hn hnone)
  case ok =>
    obtain ⟨e, he⟩ := hfields.mp hf
    have hst : e.staged = r := SelectStaging.record?_staged he
    refine ⟨e, congrArg SelectStaging.enabled hst, congrArg SelectStaging.space hst,
      congrArg SelectStaging.sizeCode hst, congrArg SelectStaging.base hst, congrArg SelectStaging.qualifier hst,
      congrArg SelectStaging.polarity hst, congrArg SelectStaging.unclaimedOnly hst, ?_⟩
    exact State.command_windowWritten _ _ _ _ _ _ _ _ h rfl (State.runCommitSelect_ok (s.openIo c) hn e he) rfl

end Sys2Proof.Machine
end

section
/-! PROOF. The select lines over every command (O14, family 09_select_lines.md): each command leaves them, opens a cycle
at the decided levels, ends one at the inactive levels, or holds them high. -/

namespace Sys2Proof.Machine

/-! ### The part of the state the select lines stand in -/

/-- The select lines with what they follow: whether a host cycle is in progress, RESET, the levels at rest, and the
levels decided for the last cycle. -/
structure Selects where
  unheld    : Bool
  unclaimed : Bool
  inReset   : Bool
  rest      : BitVec 4
  sel       : BitVec 4
  selCycle  : BitVec 4

/-- The select lines of a state. -/
def State.selects (s : State) : Selects :=
  { unheld := s.hbi.cycle.isNone, unclaimed := s.hbi.unclaimed, inReset := s.inReset, rest := s.restLevels
    sel := s.pins.sel, selCycle := s.pins.selCycle }

/-- No host cycle is in progress, neither the part's own nor another device's. -/
def Selects.free (l : Selects) : Bool := l.unheld && !l.unclaimed

/-- `State.SelectsFollow`, said of the lines and what they follow. -/
def Selects.Follow (l : Selects) : Prop :=
  l.sel = (if l.free then l.rest else l.selCycle) ∧ (l.inReset = true → l.sel = 0xF#4 ∧ l.selCycle = 0xF#4)

theorem State.selectsFollow_iff (s : State) : s.SelectsFollow ↔ s.selects.Follow := Iff.rfl

/-! ### What one command does to the lines -/

/-- What one command can do to the select lines. -/
inductive Selects.Event (l : Selects) : Selects → Prop
  /-- The lines and what they follow stay. -/
  | stay : Event l l
  /-- A cycle arrives outside RESET and stays in progress, at the levels decided for it (R152, R154). -/
  | opened (m : Selects) (hbusy : m.free = false) (hr : m.inReset = false) (hsel : m.sel = m.selCycle) : Event l m
  /-- The cycle has ended and the lines are at rest, outside RESET or with the decided levels left alone (R154). -/
  | ended (m : Selects) (hfree : m.free = true) (hsel : m.sel = m.rest)
      (hr : m.inReset = true → l.inReset = true ∧ m.rest = 0xF#4 ∧ m.selCycle = l.selCycle) : Event l m
  /-- A cycle that arrives while RESET is asserted is noted and not decided (R155). -/
  | noted (hr : l.inReset = true) : Event l { l with unclaimed := true }
  /-- RESET is asserted or released, and all lines are high (R155). -/
  | high (m : Selects) (hrest : m.rest = 0xF#4) (hsel : m.sel = 0xF#4) (hcycle : m.selCycle = 0xF#4) : Event l m

/-- Every event keeps the lines at the decision of the cycle in progress or at rest. -/
theorem Selects.Event.follow {l m : Selects} (e : l.Event m) (h : l.Follow) : m.Follow := by
  obtain ⟨-, hreset⟩ := id h
  cases e with
  | stay => exact h
  | opened _ hbusy hr hsel => exact ⟨by rw [hbusy]; exact hsel, fun hin => by simp [hr] at hin⟩
  | ended _ hfree hsel hr =>
    refine ⟨by rw [hfree]; exact hsel, fun hin => ?_⟩
    obtain ⟨hin', hrest, hcycle⟩ := hr hin
    exact ⟨hsel.trans hrest, hcycle.trans (hreset hin').2⟩
  | noted hr =>
    obtain ⟨hsel, hcycle⟩ := hreset hr
    exact ⟨by simp [Selects.free, hsel, hcycle], fun _ => ⟨hsel, hcycle⟩⟩
  | high _ hrest hsel hcycle => exact ⟨by simp [hrest, hsel, hcycle], fun _ => ⟨hsel, hcycle⟩⟩

/-- From `s` to `t` the select lines go through one event. -/
def State.SelectsTo (s t : State) : Prop := s.selects.Event t.selects

theorem State.selectsTo_of_eq {s t : State} (e : t.selects = s.selects) : s.SelectsTo t := by
  unfold State.SelectsTo
  rw [e]
  exact .stay

theorem State.SelectsTo.of_eq {s t u : State} (h : s.SelectsTo t) (e : u.selects = t.selects) : s.SelectsTo u := by
  unfold State.SelectsTo
  rw [e]
  exact h

/-- The outputs driven at the end of an event are not the select lines. -/
theorem State.selectsTo_of_done {s t v : State} (e : v.done = .next t) (h : s.SelectsTo v) : s.SelectsTo t := by
  simp only [State.done, Host.Outcome.next.injEq] at e
  subst e
  exact h

/-- The lines at rest are high while RESET is asserted (R155). -/
theorem State.restLevels_inReset {s : State} (h : s.inReset = true) : s.restLevels = 0xF#4 := if_pos h

/-! ### Operations that leave the lines -/

/-- Where the blocks outside the port's stay and the host cycle stays, so do the lines. -/
theorem State.SameOutside.selects {s t : State} (h : s.SameOutside t)
    (hcycle : t.hbi.cycle.isNone = s.hbi.cycle.isNone) (hnote : t.hbi.unclaimed = s.hbi.unclaimed) :
    t.selects = s.selects := by
  obtain ⟨-, hsdc, -, -, hin, hpins, -⟩ := h
  unfold State.selects State.restLevels
  rw [hcycle, hnote, hsdc, hin, hpins]

theorem State.SameButEngine.selects {s t : State} (h : s.SameButEngine t) : t.selects = s.selects := by
  obtain ⟨hhbi, -, houtside⟩ := h
  exact houtside.selects (by rw [hhbi]) (by rw [hhbi])

/-- Settling the port starts the access of a host cycle at most, which stays in progress. -/
theorem State.settle_selects (s : State) : s.settle.selects = s.selects := by
  refine s.settle_outside.selects ?_ ?_
  · rcases s.hostStarted_settle with hc | ⟨hc, -⟩
    · rw [hc]
    · rw [hc, Option.isNone_map]
  · rw [s.settlesTo_settle.eq]
    rfl

theorem State.SelectsTo.settle {s t : State} (h : s.SelectsTo t) : s.SelectsTo t.settle := h.of_eq t.settle_selects

theorem ButWork.selects {s t : State} (h : ButWork s t) : t.selects = s.selects := by
  unfold ButWork at h
  rw [h]
  rfl

theorem State.restage_selects (s : State) (st : HostStage) : (s.restage st).selects = s.selects := by
  have hcycle : (s.restage st).hbi.cycle.isNone = s.hbi.cycle.isNone := Option.isNone_map
  unfold State.selects
  rw [hcycle]
  rfl

theorem State.bootNext_selects (s : State) : s.bootNext.selects = s.selects := by
  unfold State.bootNext
  split
  · exact State.restage_selects _ _
  split
  all_goals rfl

theorem State.offer_selects (s : State) (r : CompletionRecord) : (s.offer r).selects = s.selects := by
  unfold State.offer
  split
  all_goals rfl

theorem State.handover_selects (s : State) (o : Requester) (forfeit : Bool) :
    (s.handover o forfeit).selects = s.selects := by
  unfold State.handover
  repeat' split
  all_goals rfl

theorem State.unlessFault_selects (p : Prop) [Decidable p] (s : State) (f : FaultRecord) :
    (if p then s else s.handFault f).selects = s.selects := by
  split
  all_goals rfl

/-! ### Cycles that begin and cycles that end -/

/-- A claimed cycle in progress has no other device's beside it. -/
theorem State.HostLegal.not_unclaimed {s : State} (h : s.HostLegal) {c : HostCycle} (hc : s.hbi.cycle = some c) :
    s.hbi.unclaimed = false :=
  ((State.hostLegal_iff_held hc).mp h).1

/-- A cycle that arrives outside RESET is held at the levels decided for it (R154). -/
theorem State.selectsTo_hold {s v : State} (hr : v.inReset = false) (hsel : v.pins.sel = v.pins.selCycle)
    (c : HostCycle) : s.SelectsTo (v.hold c) :=
  .opened _ rfl hr hsel

/-- Outside RESET the answer of a cycle puts the lines at rest, whatever was decided for it (R154). -/
theorem State.selectsTo_answer {s v : State} (hf : v.busFree = true) (hr : v.inReset = false) (a : HostAnswer) :
    s.SelectsTo (v.answer a) :=
  .ended _ hf rfl fun hin => absurd (hr.symm.trans hin) Bool.false_ne_true

/-- With no other device's cycle noted, the bus is free after a claimed cycle has ended. -/
theorem State.endCycle_free {v : State} (hu : v.hbi.unclaimed = false) (a : HostAnswer) :
    (v.endCycle a).selects.free = true := by
  show (true && !v.hbi.unclaimed) = true
  rw [hu]
  rfl

/-- A claimed cycle ends in its arrival event, outside RESET (R11 to R13, R45). -/
theorem State.selectsTo_endCycle_of_arrival {s v : State} (hu : v.hbi.unclaimed = false) (hr : v.inReset = false)
    (a : HostAnswer) : s.SelectsTo (v.endCycle a) :=
  .ended _ (State.endCycle_free hu a) rfl fun hin => absurd (hr.symm.trans hin) Bool.false_ne_true

/-- A claimed cycle ends later than it arrived, the levels decided for it left alone (R41, R154). -/
theorem State.selectsTo_endCycle {s v : State} (e : v.selects = s.selects) (hu : s.hbi.unclaimed = false)
    (a : HostAnswer) : s.SelectsTo (v.endCycle a) := by
  have hin : v.inReset = s.inReset := congrArg Selects.inReset e
  have hcycle : v.pins.selCycle = s.pins.selCycle := congrArg Selects.selCycle e
  have hnote : v.hbi.unclaimed = s.hbi.unclaimed := congrArg Selects.unclaimed e
  exact .ended _ (State.endCycle_free (hnote.trans hu) a) rfl fun hr =>
    ⟨hin.symm.trans hr, State.restLevels_inReset (s := v) hr, hcycle⟩

/-! ### Host cycles -/

/-- A host memory cycle, its select lines decided, is held or noted at these levels or ends in the same event. -/
theorem State.arriveRoute_selects {s u : State} (c : MemoryCycle) (r : Route) (hu : u.hbi.unclaimed = false)
    (hr : u.inReset = false) (hsel : u.pins.sel = u.pins.selCycle) : s.SelectsTo (u.arriveRoute c r) := by
  have hrefused (kind : FaultKind) (b : Fin 64) (fa : FaultAction) (data : Option LaneData) :
      s.SelectsTo (u.endRefused kind (wordAddr c.ha) c.dir b fa data) := by
    rw [State.endRefused_eq]
    split
    · exact State.selectsTo_endCycle_of_arrival hu hr _
    · exact State.selectsTo_endCycle_of_arrival (v := u.handFault _) hu hr _
  have hwork (off : Offset) (b : Fin 64) (ov : Option (Fin 16)) : s.SelectsTo (u.arriveWork c off b ov) :=
    .settle (State.selectsTo_hold hr hsel _)
  cases r with
  | notClaimed => exact .opened _ (Bool.and_false _) hr hsel
  | discard b fa => exact hrefused .discardedWrite b fa none
  | closed b fa => exact hrefused .closedAccess b fa _
  | bootRead off b =>
    show s.SelectsTo (u.arriveBootRead c off b)
    unfold State.arriveBootRead
    split
    · exact (State.selectsTo_hold (v := { u with bsc := u.bsc.startHost off }) hr hsel _).of_eq
        (State.restage_selects _ _)
    · exact State.selectsTo_hold (v := { u with bsc := { u.bsc with hostRequest := some off } }) hr hsel _
  | workRead off b ov => exact hwork off b ov
  | workWrite off b ov =>
    show s.SelectsTo (if u.hbi.postingEnable then u.arrivePosted c off b ov else u.arriveWork c off b ov)
    split
    · unfold State.arrivePosted
      dsimp only
      split
      · exact .settle (State.selectsTo_endCycle_of_arrival (v := u.post _) hu hr _)
      · exact .settle (State.selectsTo_hold hr hsel _)
    · exact hwork off b ov

theorem execHostMemoryCycleArrival_selects {c : MemoryCycle} {s t : State}
    (h : execHostMemoryCycleArrival c s = .next t) : s.SelectsTo t := by
  unfold execHostMemoryCycleArrival at h
  split at h
  · cases h
  split at h
  · cases h
  rename_i hf
  rw [Bool.not_eq_false, State.busFree_iff] at hf
  obtain ⟨-, hnote⟩ := hf
  split at h
  · exact State.selectsTo_of_done h (.noted ‹_›)
  · rename_i hr
    rw [Bool.not_eq_true] at hr
    exact State.selectsTo_of_done h (State.arriveRoute_selects (u := s.arrive _ _ _ _) c _ hnote hr rfl)

theorem execUnclaimedIoCycle_selects {dir : Direction} {c : IoCycle} {s t : State}
    (h : execUnclaimedIoCycle dir c s = .next t) : s.SelectsTo t := by
  unfold execUnclaimedIoCycle at h
  split at h
  · cases h
  split at h
  · cases h
  rename_i hf
  rw [Bool.not_eq_false] at hf
  split at h
  · exact State.selectsTo_of_done h (.noted ‹_›)
  rename_i hr
  rw [Bool.not_eq_true] at hr
  split at h
  · cases dir with
    | read => exact State.selectsTo_of_done h (State.selectsTo_answer (v := s.arrive _ _ _ _) hf hr _)
    | write => cases h
  · exact State.selectsTo_of_done h (.opened _ (Bool.and_false _) hr rfl)

theorem execUnclaimedCycleEnd_selects {s t : State} (h : execUnclaimedCycleEnd s = .next t) : s.SelectsTo t := by
  unfold execUnclaimedCycleEnd at h
  split at h
  · cases h
  · rename_i hc
    have hfree : (s.hbi.cycle.isNone && !false) = true := by simpa using hc
    exact State.selectsTo_of_done h (.ended _ hfree rfl fun hr => ⟨hr, State.restLevels_inReset (s := s) hr, rfl⟩)

theorem execHostWaitTimeout_selects {s t : State} (hs : s.HostLegal) (h : execHostWaitTimeout s = .next t) :
    s.SelectsTo t := by
  unfold execHostWaitTimeout at h
  split at h
  · cases h
  rename_i hc
  split at h
  · cases h
  split at h
  · cases h
  · exact State.selectsTo_of_done h (.settle (State.selectsTo_endCycle rfl (hs.not_unclaimed hc) _))

theorem execHostBootReadComplete_selects {s t : State} (hs : s.HostLegal) (h : execHostBootReadComplete s = .next t) :
    s.SelectsTo t := by
  unfold execHostBootReadComplete at h
  split at h
  · rename_i hc
    split at h
    · exact State.selectsTo_of_done h
        ((State.selectsTo_endCycle rfl (hs.not_unclaimed hc) _).of_eq (State.bootNext_selects _))
    · cases h
  · cases h

theorem execHostWorkReadComplete_selects {s t : State} (hs : s.HostLegal) (h : execHostWorkReadComplete s = .next t) :
    s.SelectsTo t := by
  unfold execHostWorkReadComplete at h
  split at h
  · rename_i hc
    refine State.selectsTo_of_done h (.settle (State.selectsTo_endCycle ?_ (hs.not_unclaimed hc) _))
    exact (State.unlessFault_selects _ _ _).trans rfl
  · cases h

theorem execUnpostedWriteComplete_selects {s t : State} (hs : s.HostLegal)
    (h : execUnpostedWriteComplete s = .next t) : s.SelectsTo t := by
  unfold execUnpostedWriteComplete at h
  split at h
  · rename_i c _ hc
    have hbut : ButWork s.endAccess (s.endAccess.writeLanes c.offset c.lanes c.data) := State.writeWork_butWork ..
    exact State.selectsTo_of_done h (.settle (State.selectsTo_endCycle hbut.selects (hs.not_unclaimed hc) _))
  · cases h

/-- A drain ends a cycle that waited for a slot and leaves any other in progress (R43, R46). -/
theorem State.afterDrain_selects {s v : State} (e : v.selects = s.selects)
    (hu : ∀ c, v.hbi.cycle = some c → s.hbi.unclaimed = false) : s.SelectsTo v.afterDrain := by
  unfold State.afterDrain
  split
  · rename_i c hc
    split
    · exact State.selectsTo_endCycle (v := v.post c.entry) e (hu c hc) _
    · split
      · exact State.selectsTo_of_eq ((v.restage_selects _).trans e)
      · exact State.selectsTo_of_eq e
    · exact State.selectsTo_of_eq e
  · exact State.selectsTo_of_eq e

theorem execDrainComplete_selects {s t : State} (hs : s.HostLegal) (h : execDrainComplete s = .next t) :
    s.SelectsTo t := by
  unfold execDrainComplete at h
  split at h
  · rename_i e rest _ _
    have hbut : ButWork s.endAccess (s.endAccess.writeLanes e.offset e.lanes e.data) := State.writeWork_butWork ..
    refine State.selectsTo_of_done h (.settle (State.afterDrain_selects (hbut.withBuffer rest).selects fun c hc => ?_))
    rw [hbut] at hc
    exact hs.not_unclaimed hc
  · cases h

/-! ### The engine -/

theorem execActivation_selects {s t : State} (h : execActivation s = .next t) : s.SelectsTo t := by
  unfold execActivation at h
  split at h
  · dsimp only at h
    split at h
    · rw [State.retire_unapplied _ _ _ _ (actionResult_failed _ _)] at h
      exact State.selectsTo_of_done h (State.selectsTo_of_eq (State.offer_selects _ _))
    · exact State.selectsTo_of_done h (.settle (State.selectsTo_of_eq (State.beginLine_sameButEngine _ _).selects))
  · cases h

theorem execEngineBootReadComplete_selects {s t : State} (h : execEngineBootReadComplete s = .next t) :
    s.SelectsTo t := by
  unfold execEngineBootReadComplete at h
  split at h
  · split at h
    · split at h
      · exact State.selectsTo_of_done h (.settle (State.selectsTo_of_eq s.bootNext_selects))
      · exact State.selectsTo_of_done h (.settle (State.selectsTo_of_eq (State.bootNext_selects _)))
    · cases h
  · cases h

theorem execLineWriteComplete_selects {s t : State} (h : execLineWriteComplete s = .next t) : s.SelectsTo t := by
  unfold execLineWriteComplete at h
  split at h
  · rename_i off data mask _ _
    have hbut : ButWork s.endAccess (s.endAccess.writeLine off mask data) := State.writeWork_butWork ..
    have hkept : (s.endAccess.writeLine off mask data).selects = s.selects := hbut.selects
    dsimp only at h
    split at h
    · exact State.selectsTo_of_done h (.settle (State.selectsTo_of_eq hkept))
    · exact State.selectsTo_of_done h
        (.settle (State.selectsTo_of_eq ((State.completeLine_sameButEngine _ _).selects.trans hkept)))
  · cases h

theorem execVerifyReadComplete_selects {s t : State} (h : execVerifyReadComplete s = .next t) : s.SelectsTo t := by
  have hcompletes (v : State) (r : LineResult) (e : v.selects = s.selects) : s.SelectsTo (v.completeLine r).settle :=
    .settle (State.selectsTo_of_eq ((v.completeLine_sameButEngine r).selects.trans e))
  unfold execVerifyReadComplete at h
  split at h
  · split at h
    · exact State.selectsTo_of_done h (.settle (State.selectsTo_of_eq rfl))
    split at h
    · split at h
      · split at h
        · exact State.selectsTo_of_done h (hcompletes _ _ rfl)
        · exact State.selectsTo_of_done h (hcompletes _ _ rfl)
      · cases h
    · cases h
  · cases h

/-! ### The arbiter and the auxiliary port -/

theorem State.tick_selects (s : State) : s.SelectsTo s.tick := by
  have hticked : s.ticked.selects = s.selects := by
    rw [State.ticked_eq]
    rfl
  rcases s.tick_cases with ⟨o, -, -, heq⟩ | ⟨-, heq⟩
  · rw [heq]
    exact .settle (State.selectsTo_of_eq ((State.handover_selects _ _ _).trans hticked))
  · rw [heq]
    exact .settle (State.selectsTo_of_eq hticked)

theorem execGuaranteeExpiry_selects {s t : State} (h : execGuaranteeExpiry s = .next t) : s.SelectsTo t := by
  unfold execGuaranteeExpiry at h
  split at h
  · exact State.selectsTo_of_done h s.tick_selects
  · cases h

theorem execIdleExpiry_selects {s t : State} (h : execIdleExpiry s = .next t) : s.SelectsTo t := by
  unfold execIdleExpiry at h
  split at h
  · exact State.selectsTo_of_done h s.tick_selects
  · cases h

theorem execAreqAssert_selects {s t : State} (h : execAreqAssert s = .next t) : s.SelectsTo t := by
  unfold execAreqAssert at h
  split at h
  · cases h
  dsimp only at h
  split at h
  · exact State.selectsTo_of_done h (State.selectsTo_of_eq rfl)
  · rw [State.resumeAux_eq] at h
    exact State.selectsTo_of_done h (.settle (State.selectsTo_of_eq rfl))

theorem execAreqDeassert_selects {s t : State} (h : execAreqDeassert s = .next t) : s.SelectsTo t := by
  unfold execAreqDeassert at h
  split at h
  · cases h
  dsimp only at h
  split at h
  · exact State.selectsTo_of_done h (State.selectsTo_of_eq rfl)
  · exact State.selectsTo_of_done h (.settle (State.selectsTo_of_eq rfl))

theorem execAuxCycleStart_selects {c : AuxRequest} {s t : State} (h : execAuxCycleStart c s = .next t) :
    s.SelectsTo t := by
  unfold execAuxCycleStart at h
  split at h
  · cases h
  split at h
  · exact State.selectsTo_of_done h (State.selectsTo_of_eq rfl)
  split at h
  · dsimp only at h
    repeat' split at h
    all_goals exact State.selectsTo_of_done h (State.selectsTo_of_eq rfl)
  · cases h

theorem State.auxEffect_selects (s : State) (c : AuxCycle) (check : Bool) :
    (s.auxEffect c check).1.selects = s.selects := by
  unfold State.auxEffect
  split
  · have hbut : ButWork s (s.writeLanes c.offset c.lanes c.data) := State.writeWork_butWork ..
    exact hbut.selects
  · exact State.unlessFault_selects _ _ _

theorem execAuxAccessComplete_selects {s t : State} (h : execAuxAccessComplete s = .next t) : s.SelectsTo t := by
  unfold execAuxAccessComplete at h
  split at h
  · rename_i check c _ _
    have hkept : (s.endAccess.auxEffect c check).1.selects = s.selects := s.endAccess.auxEffect_selects c check
    exact State.selectsTo_of_done h (.settle (State.selectsTo_of_eq hkept))
  · cases h

theorem execAstbDrop_selects {s t : State} (h : execAstbDrop s = .next t) : s.SelectsTo t := by
  unfold execAstbDrop at h
  split at h
  · cases h
  · exact State.selectsTo_of_done h (State.selectsTo_of_eq rfl)

theorem execAstbAssertionDuringAccess_selects {s t : State} (h : execAstbAssertionDuringAccess s = .next t) :
    s.SelectsTo t := by
  unfold execAstbAssertionDuringAccess at h
  split at h
  · split at h
    · cases h
    · exact State.selectsTo_of_done h (State.selectsTo_of_eq rfl)
  · cases h

/-! ### The resets -/

theorem execResetAssert_selects {s t : State} (h : execResetAssert s = .next t) : s.SelectsTo t := by
  unfold execResetAssert at h
  split at h
  · cases h
  · exact State.selectsTo_of_done h (.high _ rfl rfl rfl)

/-- After the release every record is disabled and active low, and its line high (R151, R155). -/
theorem State.released_restLevels (s : State) (st : Straps) : (s.released st).restLevels = 0xF#4 := by
  show lines4 (fun k : Fin 4 => (Vector.ofFn fun _ : Fin 4 => defaultSelect)[k].inactiveLevel) = _
  simp only [Fin.getElem_fin, Vector.getElem_ofFn]
  rfl

theorem exec_resetRelease_selects {st : Straps} {s t : State} (h : exec (.resetRelease st) s = .next t) :
    s.SelectsTo t := by
  rw [exec_resetRelease_next h]
  exact .high _ (s.released_restLevels st) rfl rfl

/-! ### Register window writes and commands -/

/-- A data port write whose effect leaves the host bus and RESET alone ends with the lines at rest, at the levels the
records have after the effect (R154, R157). -/
theorem State.dataWrite_selects {s t : State} {c : IoCycle} {mine : Byte → Byte → Bool}
    {effect : Byte → Byte → State → State} (h : s.dataWrite c mine effect = .next t)
    (heff : ∀ i b u, (effect i b u).busFree = u.busFree ∧ (effect i b u).inReset = u.inReset) : s.SelectsTo t := by
  obtain ⟨i, b, htakes, -, rfl⟩ := State.dataWrite_next s t c mine effect h
  obtain ⟨hbus, hin⟩ := heff i b (s.openIo c)
  obtain ⟨hfree, -⟩ := id htakes
  exact State.selectsTo_of_done rfl
    (State.selectsTo_answer (hbus.trans hfree) (hin.trans htakes.running) .readyWrite)

/-- A command whose block's rule leaves the host bus and RESET alone ends with the lines at rest. -/
theorem State.command_selects {s t : State} {c : IoCycle} {mine : Byte → Bool} {run : State → Reply}
    (h : s.command c mine run = .next t)
    (hrun : ∀ u, (run u).state.busFree = u.busFree ∧ (run u).state.inReset = u.inReset) : s.SelectsTo t :=
  State.dataWrite_selects h fun _ _ u => hrun u

theorem execIndexPortWrite_selects {c : IoCycle} {s t : State} (h : execIndexPortWrite c s = .next t) :
    s.SelectsTo t := by
  unfold execIndexPortWrite at h
  split at h
  · cases h
  rename_i hf
  rw [Bool.not_eq_false] at hf
  split at h
  · rename_i hport
    simp only [Bool.and_eq_true, Bool.not_eq_true'] at hport
    obtain ⟨⟨hr, -⟩, -⟩ := hport
    exact State.selectsTo_of_done h (State.selectsTo_answer (v := s.openIo c) hf hr _)
  · cases h

theorem execRegisterWrite_selects {c : IoCycle} {s t : State} (h : execRegisterWrite c s = .next t) :
    s.SelectsTo t := by
  refine State.dataWrite_selects h fun i b u => ?_
  split
  all_goals exact ⟨rfl, rfl⟩

/-- ENGINE_RESET settles the port and leaves the host cycle (R83). -/
theorem execEngineReset_selects {c : IoCycle} {s t : State} (h : execEngineReset c s = .next t) : s.SelectsTo t := by
  refine State.command_selects h fun u => ?_
  have hsettled : u.runEngineReset.state.selects = u.selects := State.settle_selects _
  exact ⟨congrArg Selects.free hsettled, congrArg Selects.inReset hsettled⟩

/-! ### Every command -/

/-- Every command is one event of the select lines: what a command can do to them, said once. -/
theorem exec_selects {i : Instr} {s t : State} (hs : s.HostLegal) (h : exec i s = .next t) : s.SelectsTo t := by
  cases i with
  | hostMemoryCycleArrival c => exact execHostMemoryCycleArrival_selects h
  | unclaimedIoCycle dir c => exact execUnclaimedIoCycle_selects h
  | unclaimedCycleEnd => exact execUnclaimedCycleEnd_selects h
  | hostWaitTimeout => exact execHostWaitTimeout_selects hs h
  | hostBootReadComplete => exact execHostBootReadComplete_selects hs h
  | hostWorkReadComplete => exact execHostWorkReadComplete_selects hs h
  | unpostedWriteComplete => exact execUnpostedWriteComplete_selects hs h
  | drainComplete => exact execDrainComplete_selects hs h
  | activation => exact execActivation_selects h
  | engineBootReadComplete => exact execEngineBootReadComplete_selects h
  | lineWriteComplete => exact execLineWriteComplete_selects h
  | verifyReadComplete => exact execVerifyReadComplete_selects h
  | arbiterTick => exact State.selectsTo_of_done h s.tick_selects
  | guaranteeExpiry => exact execGuaranteeExpiry_selects h
  | idleExpiry => exact execIdleExpiry_selects h
  | areqAssert => exact execAreqAssert_selects h
  | areqDeassert => exact execAreqDeassert_selects h
  | auxCycleStart c => exact execAuxCycleStart_selects h
  | auxAccessComplete => exact execAuxAccessComplete_selects h
  | astbDrop => exact execAstbDrop_selects h
  | astbAssertionDuringAccess => exact execAstbAssertionDuringAccess_selects h
  | resetAssert => exact execResetAssert_selects h
  | resetRelease st => exact exec_resetRelease_selects h
  | indexPortWrite c => exact execIndexPortWrite_selects h
  | engineReset c => exact execEngineReset_selects h
  | stagingWrite c | postingEnableWrite c | hostWaitLimitWrite c | parityTerminationWrite c | parityCheckEnableWrite c
  | bootAccessTimeWrite c | guaranteeWrite c | idleWindowWrite c | interruptMaskWrite c =>
    dsimp only [exec, execStagingWrite, execPostingEnableWrite, execHostWaitLimitWrite, execParityTerminationWrite,
      execParityCheckEnableWrite, execBootAccessTimeWrite, execGuaranteeWrite, execIdleWindowWrite,
      execInterruptMaskWrite] at h
    exact State.dataWrite_selects h fun _ _ _ => ⟨rfl, rfl⟩
  | registerWrite c => exact execRegisterWrite_selects h
  | lockRouting c | flushQueued c | monitorStart c | monitorStop c | snapshotMonitor c | clearOverflow c =>
    exact State.command_selects h fun _ => ⟨rfl, rfl⟩
  | unknownCommand c =>
    exact State.command_selects (show execUnknownCommand c s = .next t from h) fun _ => ⟨rfl, rfl⟩
  | setWindow c | commitRoute c | loadRoute c | commitOverlay c | loadOverlay c | submitJob c | abortActive c
  | setAuxWindow c | popFault c | popCompletion c | commitSelect c | loadSelect c | setPorts c =>
    -- in every branch the rule changes its own block alone
    refine State.command_selects h fun u => ?_
    dsimp only [State.runSetWindow, State.runCommitRoute, State.runLoadRoute, State.runCommitOverlay,
      State.runLoadOverlay, State.runSubmitJob, State.runAbortActive, State.runSetAuxWindow, State.runPopFault,
      State.runPopCompletion, State.runCommitSelect, State.runLoadSelect, State.runSetPorts]
    repeat' split
    all_goals exact ⟨rfl, rfl⟩

/-- Settles O14: every command is one event of the select lines, and every event keeps them where they belong. -/
theorem stepKeepsSelectsFollow : Obligations.StepKeepsSelectsFollow := by
  intro s t hs hsel h
  unfold step at h
  split at h
  · cases h
    exact hsel
  · rename_i c rest _
    have hevent : State.SelectsTo { s with pending := rest } t := exec_selects (s := { s with pending := rest }) hs h
    exact t.selectsFollow_iff.mpr (hevent.follow hsel)

end Sys2Proof.Machine
end

section
/-! PROOF. The two ports and the writes through them that are no staging bytes: the index, the settings, the argument,
and an unassigned command code (O17, O19, O20, O35, family 10_register_window_and_commands.md). -/

namespace Sys2Proof.Machine

/-! ### The two ports -/

/-- The two low bits of a word's address are 0. -/
theorem wordAddr_toNat (ha : BitVec 30) : (wordAddr ha).toNat = ha.toNat * 4 := by
  rw [wordAddr, BitVec.toNat_append, BitVec.toNat_ofNat, Nat.zero_mod, Nat.or_zero, Nat.shiftLeft_eq]

/-- The word of an I/O cycle holds the ports exactly where the port base lies in it (R160). -/
theorem atPorts_iff (p : BitVec 16) (ha : BitVec 30) :
    atPorts p ha = true ↔ (wordAddr ha).toNat ≤ p.toNat ∧ p.toNat < (wordAddr ha).toNat + 4 := by
  rw [atPorts, beq_iff_eq, wordAddr_toNat]
  omega

theorem State.reachesIndex_iff (s : State) (c : IoCycle) :
    s.reachesIndex c = true ↔ (wordAddr c.ha).toNat ≤ s.rgw.portBase.toNat
      ∧ s.rgw.portBase.toNat < (wordAddr c.ha).toNat + 4 ∧ carries c.lanes (s.rgw.portBase.toNat % 4) = true := by
  rw [State.reachesIndex, Bool.and_eq_true, atPorts_iff, and_assoc]
  rfl

/-- With an even port base the data port lies in the index port's word, one lane above (R159, R160). -/
theorem State.reachesData_iff (s : State) (c : IoCycle) (heven : s.rgw.portBase.toNat % 2 = 0) :
    s.reachesData c = true ↔ (wordAddr c.ha).toNat ≤ s.rgw.portBase.toNat + 1
      ∧ s.rgw.portBase.toNat + 1 < (wordAddr c.ha).toNat + 4
      ∧ carries c.lanes ((s.rgw.portBase.toNat + 1) % 4) = true := by
  have hlane : dataLane s.rgw.portBase = (s.rgw.portBase.toNat + 1) % 4 := by
    unfold dataLane indexLane
    omega
  rw [State.reachesData, Bool.and_eq_true, atPorts_iff, hlane, wordAddr_toNat, ← and_assoc]
  refine and_congr_left' ?_
  omega

theorem State.claimsIo_iff (s : State) (c : IoCycle) :
    s.claimsIo c = true ↔ s.inReset = false ∧ (s.reachesIndex c = true ∨ s.reachesData c = true) := by
  rw [State.claimsIo, Bool.and_eq_true, Bool.not_eq_true', Bool.or_eq_true]

theorem State.dataPortWrite_iff (s : State) (c : IoCycle) (i b : Byte) :
    s.dataPortWrite c = some (i, b) ↔
      s.inReset = false ∧ s.reachesData c = true ∧ i = s.selectedIndex c ∧ b = s.dataByte c := by
  rw [State.dataPortWrite, Option.ite_none_right_eq_some, Bool.and_eq_true, Bool.not_eq_true', Option.some.injEq,
    Prod.mk.injEq, and_assoc, eq_comm (a := s.selectedIndex c), eq_comm (a := s.dataByte c)]

/-- Settles O17: the ports by their word and lanes, the write of the index lane alone, and the index lane of a read. -/
theorem portsSelectByLaneAndIndexIsStored : Obligations.PortsSelectByLaneAndIndexIsStored := by
  refine ⟨fun s c => ⟨s.reachesIndex_iff c, s.reachesData_iff c, s.claimsIo_iff c, s.dataPortWrite_iff c⟩,
    fun s c hb hr hi hd => ⟨?stored, if_pos hi⟩, fun s c hl => ?read⟩
  case stored =>
    show execIndexPortWrite c s = _
    unfold execIndexPortWrite
    rw [if_neg (by simp [hb]), if_pos (by simp [hr, hi, hd])]
    rfl
  case read =>
    have hlane : indexLane s.rgw.portBase < 4 := Nat.mod_lt _ (by decide)
    simp [State.portRead, laneData, hlane, hl]

/-! ### Writes of a row whose effect leaves the outputs and the index alone -/

/-- A data port write that the part takes as the row's, whose effect leaves the outputs and the index that the opened
cycle has set: the answer is `u`, what the effect makes of the state before the cycle, with the cycle ended. -/
theorem State.dataWrite_windowWritten (s : State) (c : IoCycle) (mine : Byte → Byte → Bool)
    (effect : Byte → Byte → State → State) (i b : Byte) (u : State) (h : s.TakesWrite c i b) (hm : mine i b = true)
    (heff : effect i b (s.openIo c)
      = { u with pins := s.openPins .io (wordAddr c.ha) .write true
                 rgw := { u.rgw with index := s.selectedIndex c } })
    (hp : u.pins = s.pins) :
    s.dataWrite c mine effect = .next (s.windowWritten c u) := by
  rw [State.dataWrite_takes s c mine effect i b h hm, heff]
  unfold State.windowWritten
  rw [hp]
  rfl

/-! ### REGISTER_WRITE and UNKNOWN_COMMAND -/

/-- A class that a write leaves as it stands is one of REGISTER_WRITE's, and not the argument (R162, R163). -/
theorem plainWrite_of_unwritten (k : IndexClass)
    (h : k ∈ [.unimplemented, .result, .status, .view, .strap, .identification, .monitor]) :
    k.plainWrite = true ∧ k ≠ .argument := by
  revert h
  cases k <;> decide

/-- Settles O20: by the class of the index, the argument's or one that a write leaves as it stands. -/
theorem registerWriteStoresArgumentOnly : Obligations.RegisterWriteStoresArgumentOnly := by
  intro s c i b h
  refine ⟨fun hi => ?argument, fun hi => ?unwritten⟩
  case argument =>
    subst hi
    show execRegisterWrite c s = _
    exact State.dataWrite_windowWritten s c _ _ _ b _ h rfl rfl rfl
  case unwritten =>
    obtain ⟨hplain, hne⟩ := plainWrite_of_unwritten _ hi
    show execRegisterWrite c s = _
    exact State.dataWrite_windowWritten s c _ _ i b s h hplain (if_neg hne) rfl

/-- Settles O35: the rule of an unassigned code refuses it as unknown, and the command register shows the code. -/
theorem unknownCommandReachesNothing : Obligations.UnknownCommandReachesNothing := by
  intro s c code h hcode
  have hmine : (!assignedCode code) = true := by
    rw [Bool.not_eq_true', assignedCode]
    exact decide_eq_false hcode
  refine ⟨?_, rfl⟩
  show execUnknownCommand c s = _
  exact State.command_refuses s c _ _ code .unknownCommand h hmine rfl

/-! ### The settings -/

theorem flagOfCode_getD (b : Byte) (old : Bool) :
    (flagOfCode b).getD old = if b = 0#8 then false else if b = 1#8 then true else old := by
  rw [flagOfCode_eq]
  split_ifs
  all_goals rfl

theorem parityCheckAfter_eq (parity old : Bool) (b : Byte) :
    parityCheckAfter parity old b = if b = 0#8 then false else if b = 1#8 then parity else old := by
  rw [parityCheckAfter, flagOfCode_eq]
  split_ifs
  all_goals rfl

/-- Settles O19: each setting's row runs the effect of its register; a guarantee and an idle window go to the requester
of their index. -/
theorem settingWritesReplaceSettings : Obligations.SettingWritesReplaceSettings := by
  intro s c i b h
  refine ⟨?posting, ?waitLimit, ?termination, ?parityCheck, ?bootAccess, ?mask, ?guarantee, ?idleWindow⟩
  case posting | termination =>
    rintro rfl
    rw [← flagOfCode_getD]
    dsimp only [exec]
    exact State.dataWrite_windowWritten s c _ _ _ b _ h rfl rfl rfl
  case parityCheck =>
    rintro rfl
    rw [← parityCheckAfter_eq]
    dsimp only [exec]
    exact State.dataWrite_windowWritten s c _ _ _ b _ h rfl rfl rfl
  case waitLimit | bootAccess | mask =>
    rintro rfl
    dsimp only [exec]
    exact State.dataWrite_windowWritten s c _ _ _ b _ h rfl rfl rfl
  case guarantee | idleWindow =>
    intro hi
    dsimp only [exec]
    rcases hi with rfl | rfl | rfl
    all_goals exact State.dataWrite_windowWritten s c _ _ _ b _ h rfl rfl rfl

end Sys2Proof.Machine
end

section
/-! PROOF. The staging records by their bytes: what a stored byte changes and leaves, and where each field lies (O18,
family 10_register_window_and_commands.md). -/

namespace Sys2Proof.Machine

/-! ### One byte of a wider value replaced -/

/-- Byte `k` of a value shows the value's bits from `8 * k` on. -/
theorem getLsbD_getByte {n : Nat} (v : BitVec n) (k i : Nat) (hi : i < 8) :
    (getByte v k).getLsbD i = v.getLsbD (8 * k + i) := by
  simp [getByte, hi]

/-- The bits of a value with byte `k` replaced: the byte's within it, the value's elsewhere. -/
theorem getLsbD_setByte {n : Nat} (v : BitVec n) (k : Nat) (b : Byte) (i : Nat) (hi : i < n) :
    (setByte v k b).getLsbD i = if 8 * k ≤ i ∧ i < 8 * k + 8 then b.getLsbD (i - 8 * k) else v.getLsbD i := by
  have hones : (0xFF#8).getLsbD (i - 8 * k) = decide (i - 8 * k < 8) := by
    simpa using BitVec.getLsbD_allOnes (v := 8) (i := i - 8 * k)
  have hwidth : i - 8 * k < n := by omega
  simp only [setByte, BitVec.getLsbD_or, BitVec.getLsbD_and, BitVec.getLsbD_not, BitVec.getLsbD_shiftLeft,
    BitVec.getLsbD_setWidth, hones, hi, hwidth, decide_true, Bool.true_and]
  by_cases hlo : i < 8 * k
  · simp [hlo, Nat.not_le.mpr hlo]
  by_cases hhi : i < 8 * k + 8
  · simp [hlo, Nat.not_lt.mp hlo, hhi, show i - 8 * k < 8 by omega]
  · simp [hlo, hhi, show ¬ i - 8 * k < 8 by omega, BitVec.getLsbD_of_ge b (i - 8 * k) (by omega)]

/-- A byte stored in a value reads back, and every other byte reads as before (R165). -/
theorem getByte_setByte {n : Nat} (v : BitVec n) (j k : Nat) (b : Byte) (hj : 8 * j + 8 ≤ n) :
    getByte (setByte v k b) j = if j = k then b else getByte v j := by
  apply BitVec.eq_of_getLsbD_eq
  intro i hi
  rw [getLsbD_getByte _ _ _ hi, getLsbD_setByte v k b _ (by omega)]
  by_cases hjk : j = k
  · subst hjk
    rw [if_pos rfl, if_pos (by omega), Nat.add_sub_cancel_left]
  · rw [if_neg hjk, if_neg (by omega), getLsbD_getByte _ _ _ hi]

/-! ### The staging records, byte by byte (Table 11-4)

In each record the field a byte is stored in shows it at its place, and every other field is as it was. -/

theorem RouteStaging.byte_store (r : RouteStaging) (b : Byte) (j k : Nat) (hj : j ≤ 7) (hk : k ≤ 7) :
    (r.store k b).byte j = if j = k then b else r.byte j := by
  unfold RouteStaging.store
  split_ifs
  all_goals grind [RouteStaging.byte, getByte_setByte]

theorem OverlayStaging.byte_store (r : OverlayStaging) (b : Byte) (j k : Nat) (hj : j ≤ 8) :
    (r.store k b).byte j = if j = k then b else r.byte j := by
  unfold OverlayStaging.store
  split_ifs
  all_goals grind [OverlayStaging.byte, getByte_setByte]

/-- The five bits of a size code, as its byte. -/
theorem setWidth_sizeCode (b : Byte) : (b.setWidth 5).setWidth 8 = b &&& 0x1F#8 := by
  revert b
  decide

theorem SelectStaging.byte_store (r : SelectStaging) (b : Byte) (j k : Nat) (hj : j ≤ 9) (hk : k ≤ 9) :
    (r.store k b).byte j = if j = k then (if k = 2 then b &&& 0x1F#8 else b) else r.byte j := by
  unfold SelectStaging.store
  split_ifs
  all_goals grind [SelectStaging.byte, getByte_setByte, setWidth_sizeCode]

theorem JobStaging.byte_store (r : JobStaging) (b : Byte) (j k : Nat) (hj : j ≤ 12) (hk : k ≤ 12) :
    (r.store k b).byte j = if j = k then b else r.byte j := by
  unfold JobStaging.store
  split_ifs
  all_goals grind [JobStaging.byte, getByte_setByte]

theorem WindowStaging.byte_store (r : WindowStaging) (b : Byte) (j k : Nat) (hj : j ≤ 4) (hk : k ≤ 4) :
    (r.store k b).byte j = if j = k then b else r.byte j := by
  unfold WindowStaging.store
  split_ifs
  all_goals grind [WindowStaging.byte, getByte_setByte]

theorem AuxStaging.byte_store (r : AuxStaging) (b : Byte) (j k : Nat) (hj : j ≤ 5) :
    (r.store k b).byte j = if j = k then b else r.byte j := by
  unfold AuxStaging.store
  split_ifs
  all_goals grind [AuxStaging.byte, getByte_setByte]

/-! ### The record of each index (Table 11-1) -/

theorem Staging.store_route (st : Staging) (i b : Byte) :
    (st.store i b).route = if i.toNat ≤ 0x2F then st.route.store (i.toNat - 0x28) b else st.route := by
  unfold Staging.store
  grind

theorem Staging.store_overlay (st : Staging) (i b : Byte) :
    (st.store i b).overlay
      = if 0x2F < i.toNat ∧ i.toNat ≤ 0x38 then st.overlay.store (i.toNat - 0x30) b else st.overlay := by
  unfold Staging.store
  grind

theorem Staging.store_select (st : Staging) (i b : Byte) :
    (st.store i b).select
      = if 0x38 < i.toNat ∧ i.toNat ≤ 0x49 then st.select.store (i.toNat - 0x40) b else st.select := by
  unfold Staging.store
  grind

theorem Staging.store_job (st : Staging) (i b : Byte) :
    (st.store i b).job
      = if 0x49 < i.toNat ∧ i.toNat ≤ 0x5C then st.job.store (i.toNat - 0x50) b else st.job := by
  unfold Staging.store
  grind

theorem Staging.store_window (st : Staging) (i b : Byte) :
    (st.store i b).window
      = if 0x5C < i.toNat ∧ i.toNat ≤ 0x64 then st.window.store (i.toNat - 0x60) b else st.window := by
  unfold Staging.store
  grind

theorem Staging.store_aux (st : Staging) (i b : Byte) :
    (st.store i b).aux = if 0x64 < i.toNat ∧ i.toNat ≤ 0x6D then st.aux.store (i.toNat - 0x68) b else st.aux := by
  unfold Staging.store
  grind

theorem Staging.store_ports (st : Staging) (i b : Byte) :
    (st.store i b).ports = if 0x6D < i.toNat then setByte st.ports (i.toNat - 0x70) b else st.ports := by
  unfold Staging.store
  grind

theorem Staging.byte_route (st : Staging) (i : Byte) (h : i.toNat ≤ 0x2F) :
    st.byte i = st.route.byte (i.toNat - 0x28) := by
  unfold Staging.byte
  grind

theorem Staging.byte_overlay (st : Staging) (i : Byte) (hlo : 0x2F < i.toNat) (hhi : i.toNat ≤ 0x38) :
    st.byte i = st.overlay.byte (i.toNat - 0x30) := by
  unfold Staging.byte
  grind

theorem Staging.byte_select (st : Staging) (i : Byte) (hlo : 0x38 < i.toNat) (hhi : i.toNat ≤ 0x49) :
    st.byte i = st.select.byte (i.toNat - 0x40) := by
  unfold Staging.byte
  grind

theorem Staging.byte_job (st : Staging) (i : Byte) (hlo : 0x49 < i.toNat) (hhi : i.toNat ≤ 0x5C) :
    st.byte i = st.job.byte (i.toNat - 0x50) := by
  unfold Staging.byte
  grind

theorem Staging.byte_window (st : Staging) (i : Byte) (hlo : 0x5C < i.toNat) (hhi : i.toNat ≤ 0x64) :
    st.byte i = st.window.byte (i.toNat - 0x60) := by
  unfold Staging.byte
  grind

theorem Staging.byte_aux (st : Staging) (i : Byte) (hlo : 0x64 < i.toNat) (hhi : i.toNat ≤ 0x6D) :
    st.byte i = st.aux.byte (i.toNat - 0x68) := by
  unfold Staging.byte
  grind

theorem Staging.byte_ports (st : Staging) (i : Byte) (h : 0x6D < i.toNat) :
    st.byte i = getByte st.ports (i.toNat - 0x70) := by
  unfold Staging.byte
  grind

/-- The indexes of class staging are those of the seven records (Table 11-4). -/
theorem indexClass_staging_iff (i : Byte) :
    indexClass i = .staging ↔
      (0x28 ≤ i.toNat ∧ i.toNat ≤ 0x2F) ∨ (0x30 ≤ i.toNat ∧ i.toNat ≤ 0x38) ∨ (0x40 ≤ i.toNat ∧ i.toNat ≤ 0x49)
        ∨ (0x50 ≤ i.toNat ∧ i.toNat ≤ 0x5C) ∨ (0x60 ≤ i.toNat ∧ i.toNat ≤ 0x64) ∨ (0x68 ≤ i.toNat ∧ i.toNat ≤ 0x6D)
        ∨ (0x70 ≤ i.toNat ∧ i.toNat ≤ 0x71) := by
  revert i
  decide

/-- A staging byte stored reads back, the size code with bits 4 to 0, and every other staging byte reads as before
(R165). -/
theorem Staging.byte_store (st : Staging) (i j b : Byte) (hi : indexClass i = .staging)
    (hj : indexClass j = .staging) :
    (st.store i b).byte j = if j = i then (if i = 0x42#8 then b &&& 0x1F#8 else b) else st.byte j := by
  rw [indexClass_staging_iff] at hi hj
  simp only [show j = i ↔ j.toNat = i.toNat from BitVec.toNat_inj.symm,
    show i = 0x42#8 ↔ i.toNat = 0x42 from BitVec.toNat_inj.symm]
  -- by the record that is read: the byte was stored in it, or in another that leaves it as it was
  rcases hj with hj | hj | hj | hj | hj | hj | hj
  · rw [Staging.byte_route _ _ (by omega), Staging.byte_route _ _ (by omega), Staging.store_route]
    grind [RouteStaging.byte_store]
  · rw [Staging.byte_overlay _ _ (by omega) (by omega), Staging.byte_overlay _ _ (by omega) (by omega),
      Staging.store_overlay]
    grind [OverlayStaging.byte_store]
  · rw [Staging.byte_select _ _ (by omega) (by omega), Staging.byte_select _ _ (by omega) (by omega),
      Staging.store_select]
    grind [SelectStaging.byte_store]
  · rw [Staging.byte_job _ _ (by omega) (by omega), Staging.byte_job _ _ (by omega) (by omega), Staging.store_job]
    grind [JobStaging.byte_store]
  · rw [Staging.byte_window _ _ (by omega) (by omega), Staging.byte_window _ _ (by omega) (by omega),
      Staging.store_window]
    grind [WindowStaging.byte_store]
  · rw [Staging.byte_aux _ _ (by omega) (by omega), Staging.byte_aux _ _ (by omega) (by omega), Staging.store_aux]
    grind [AuxStaging.byte_store]
  · rw [Staging.byte_ports _ _ (by omega), Staging.byte_ports _ _ (by omega), Staging.store_ports]
    grind [getByte_setByte]

/-! ### STAGING_WRITE -/

/-- Settles O18: the row's effect is the store, the store's bytes are the records', and each field is the bytes of its
indexes, the size code with three zero bits above it. -/
theorem stagingWriteStoresOneByte : Obligations.StagingWriteStoresOneByte := by
  refine ⟨fun s c i b h hi => ?stores, fun st i j b hi hj => st.byte_store i j b hi hj, fun st => ?fields⟩
  case stores =>
    show execStagingWrite c s = _
    exact State.dataWrite_windowWritten s c _ _ i b _ h (decide_eq_true hi) rfl rfl
  case fields =>
    have hsize : st.select.sizeCode.setWidth 8 = 0#3 ++ st.select.sizeCode := BitVec.setWidth_eq_append (by decide)
    exact ⟨⟨rfl, getByte_join3 _, getByte_join3 _, rfl⟩,
      ⟨rfl, getByte_join2 _, getByte_join3 _, rfl, getByte_join2 _⟩,
      ⟨rfl, rfl, hsize, getByte_join4 _, rfl, rfl, rfl⟩,
      ⟨rfl, rfl, rfl, getByte_join2 _, getByte_join2 _, getByte_join4 _, rfl, rfl⟩, ⟨getByte_join4 _, rfl⟩,
      ⟨getByte_join3 _, getByte_join3 _⟩, getByte_join2 _⟩

end Sys2Proof.Machine
end

section
/-! PROOF. The fault view and the completion view: the oldest record of their queue byte by byte, with the codes of its
fields (O23, family 11_register_and_record_layouts.md). -/

namespace Sys2Proof.Machine

/-! ### The registers of the views (R162, R178) -/

theorem indexClass_view (i : Byte) (hlo : 0x80 ≤ i.toNat) (hhi : i.toNat ≤ 0x9D) : indexClass i = .view := by
  revert i
  decide

/-- The register `k` places after a register of the views shows the view byte `k` places after its own. -/
theorem State.readRegister_view (s : State) (first : Byte) (k : Nat) (hlo : 0x80 ≤ first.toNat)
    (hhi : first.toNat + k ≤ 0x9D) : s.readRegister (first + BitVec.ofNat 8 k) = s.viewByte (first.toNat + k) := by
  have hindex : (first + BitVec.ofNat 8 k).toNat = first.toNat + k := by
    rw [BitVec.toNat_add, BitVec.toNat_ofNat]
    omega
  unfold State.readRegister
  rw [indexClass_view _ (by omega) (by omega), ← hindex]

/-- The sixteen registers from 0x80 show the bytes of the oldest fault record, or zeros (R141). -/
theorem State.readRegister_faultView (s : State) (k : Nat) (hk : k < 16) :
    s.readRegister (0x80#8 + BitVec.ofNat 8 k) = s.rpu.faults.head?.elim 0#8 fun r => r.viewByte k := by
  have hview : s.readRegister (0x80#8 + BitVec.ofNat 8 k) = s.viewByte (0x80 + k) :=
    s.readRegister_view 0x80#8 k (by decide) (show 0x80 + k ≤ 0x9D by omega)
  rw [hview, State.viewByte, if_pos (by omega), Nat.add_sub_cancel_left]
  cases s.rpu.faults with
  | nil => rfl
  | cons r rest => rfl

/-- The fourteen registers from 0x90 show the bytes of the oldest completion record, or zeros (R146). -/
theorem State.readRegister_completionView (s : State) (k : Nat) (hk : k < 14) :
    s.readRegister (0x90#8 + BitVec.ofNat 8 k) = s.rpu.completions.head?.elim 0#8 fun r => r.viewByte k := by
  have hview : s.readRegister (0x90#8 + BitVec.ofNat 8 k) = s.viewByte (0x90 + k) :=
    s.readRegister_view 0x90#8 k (by decide) (show 0x90 + k ≤ 0x9D by omega)
  rw [hview, State.viewByte, if_neg (by omega), Nat.add_sub_cancel_left]
  cases s.rpu.completions with
  | nil => rfl
  | cons r rest => rfl

/-- Settles O23: each register by its place in its view, an optional field by whether it is present, the address and the
counts by their bytes. -/
theorem viewsPresentOldestRecord : Obligations.ViewsPresentOldestRecord := by
  refine ⟨?codes, fun s => ⟨?noFault, ?oldestFault, ?noCompletion, ?oldestCompletion⟩⟩
  case codes => exact ⟨rfl, rfl, rfl, rfl, rfl, rfl, rfl, rfl, rfl, rfl, rfl, rfl, rfl, rfl⟩
  case noFault =>
    intro hempty k hk
    rw [s.readRegister_faultView k hk, hempty]
    rfl
  case oldestFault =>
    intro r rest hqueue
    have hbyte (k : Nat) (hk : k < 16) : s.readRegister (0x80#8 + BitVec.ofNat 8 k) = r.viewByte k := by
      rw [s.readRegister_faultView k hk, hqueue]
      rfl
    have haddress : s.readRegister (0x80#8 + BitVec.ofNat 8 6) ++ s.readRegister (0x80#8 + BitVec.ofNat 8 5)
        ++ s.readRegister (0x80#8 + BitVec.ofNat 8 4) ++ s.readRegister (0x80#8 + BitVec.ofNat 8 3) = r.address := by
      rw [hbyte 6 (by decide), hbyte 5 (by decide), hbyte 4 (by decide), hbyte 3 (by decide)]
      exact getByte_join4 r.address
    obtain ⟨kind, source, address, direction, block, tag, lanes, detail, awaited, repeats⟩ := r
    refine ⟨hbyte 0 (by decide), hbyte 1 (by decide), hbyte 2 (by decide), haddress,
      (hbyte 7 (by decide)).trans ?direction, (hbyte 8 (by decide)).trans ?block, (hbyte 9 (by decide)).trans ?tag,
      (hbyte 10 (by decide)).trans ?lanes, (hbyte 11 (by decide)).trans ?position,
      (hbyte 12 (by decide)).trans ?bootByte, (hbyte 13 (by decide)).trans ?workByte,
      (hbyte 14 (by decide)).trans ?awaited, hbyte 15 (by decide)⟩
    case direction => cases direction <;> rfl
    case block => cases block <;> rfl
    case tag => cases tag <;> rfl
    case lanes => cases lanes <;> rfl
    case position | bootByte | workByte => cases detail <;> rfl
    case awaited => cases awaited <;> rfl
  case noCompletion =>
    intro hempty k hk
    rw [s.readRegister_completionView k hk, hempty]
    rfl
  case oldestCompletion =>
    intro r rest hqueue
    have hbyte (k : Nat) (hk : k < 14) : s.readRegister (0x90#8 + BitVec.ofNat 8 k) = r.viewByte k := by
      rw [s.readRegister_completionView k hk, hqueue]
      rfl
    have hcount (k n : Nat) (hk : k + 1 < 14) (hlow : r.viewByte k = countByte n 0)
        (hhigh : r.viewByte (k + 1) = countByte n 1) :
        s.readRegister (0x90#8 + BitVec.ofNat 8 (k + 1)) ++ s.readRegister (0x90#8 + BitVec.ofNat 8 k)
          = BitVec.ofNat 16 n := by
      rw [hbyte k (by omega), hbyte (k + 1) hk, hlow, hhigh]
      exact getByte_join2 (BitVec.ofNat 16 n)
    exact ⟨hbyte 0 (by decide), hbyte 1 (by decide), hbyte 2 (by decide), hbyte 3 (by decide), hbyte 4 (by decide),
      hbyte 5 (by decide), hcount 6 r.linesDone (by decide) rfl rfl, hcount 8 r.skipped (by decide) rfl rfl,
      hcount 10 r.merged (by decide) rfl rfl, hbyte 12 (by decide), hbyte 13 (by decide)⟩

end Sys2Proof.Machine
end

section
/-! PROOF. The Work Store port is left settled (O13): what the arbiter makes of a state it settles, one requester at a
time, and every command as one that leaves the port alone or settles it. -/

namespace Sys2Proof.Machine

/-! ### What the arbiter's block agrees with -/

/-- The arbiter's block agrees with the access in progress: the part of `State.PortLegal` that is about the owner and its
timers (R100, R105, R108). -/
structure Wpa.Fits (w : Wpa) (access : Option WorkAccess) : Prop where
  owner     : ∀ a ∈ access, w.owner = some a.requester
  guarantee : w.owner = none ↔ w.guarantee = .stopped
  unowned   : w.owner = none → w.idle = .stopped
  busy      : access ≠ none → w.idle = .stopped
  idle      : w.idle ≠ .running 0

/-- The arbiter has nothing left to do with a free port: the other part of `State.PortLegal` (R102, R103, R106, R108). -/
def State.AtRest (s : State) : Prop :=
  match s.wpa.owner with
  | none => ∀ r, s.wants r = false
  | some o =>
    (o ≠ .aux → s.wants o = false)
      ∧ (s.otherWants o = true → s.wpa.guarantee ≠ .expired)
      ∧ (s.otherWants o = true ↔ s.wpa.idle ≠ .stopped)

theorem State.portLegal_iff (s : State) :
    s.PortLegal ↔ s.wpa.Fits s.wsc.access ∧ (s.wsc.access = none → s.AtRest) := by
  constructor
  · rintro ⟨howner, hguarantee, hunowned, hbusy, hidle, hrest⟩
    exact ⟨⟨howner, hguarantee, hunowned, hbusy, hidle⟩, hrest⟩
  · rintro ⟨⟨howner, hguarantee, hunowned, hbusy, hidle⟩, hrest⟩
    exact ⟨howner, hguarantee, hunowned, hbusy, hidle, hrest⟩

/-- With an access in progress nothing is asked of the arbiter but that its block agrees with it. -/
theorem State.portLegal_of_busy {s : State} (h : s.wpa.Fits s.wsc.access) (ha : s.wsc.access ≠ none) : s.PortLegal :=
  s.portLegal_iff.mpr ⟨h, fun hn => absurd hn ha⟩

/-- The end of the access in progress leaves the arbiter's block as it is. -/
theorem Wpa.Fits.freed {w : Wpa} {access : Option WorkAccess} (h : w.Fits access) : w.Fits none :=
  ⟨nofun, h.guarantee, h.unowned, fun hn => absurd rfl hn, h.idle⟩

/-- What the wants say does not turn on the arbiter's block. -/
theorem State.wants_withWpa (s : State) (w : Wpa) (r : Requester) : State.wants { s with wpa := w } r = s.wants r := by
  cases r <;> rfl

/-! ### A free port with an owner -/

/-- The requester owns the port with no access in progress, and no line is left in an access. -/
structure State.Owned (s : State) (o : Requester) : Prop where
  free      : s.wsc.access = none
  owner     : s.wpa.owner = some o
  guarantee : s.wpa.guarantee ≠ .stopped
  idle      : s.wpa.idle ≠ .running 0
  lines     : s.txe.engine.OutOfAccess

theorem State.Owned.fits {s : State} {o : Requester} (h : s.Owned o) : s.wpa.Fits s.wsc.access := by
  rw [h.free]
  refine ⟨nofun, ?_, fun hn => ?_, fun hn => absurd rfl hn, h.idle⟩
  · rw [h.owner]
    exact iff_of_false nofun h.guarantee
  · rw [h.owner] at hn
    cases hn

/-- The owner's case of `State.AtRest` settles the port. -/
theorem State.Owned.portLegal {s : State} {o : Requester} (h : s.Owned o) (hown : o ≠ .aux → s.wants o = false)
    (hexpired : s.otherWants o = true → s.wpa.guarantee ≠ .expired)
    (hidle : s.otherWants o = true ↔ s.wpa.idle ≠ .stopped) : s.PortLegal := by
  refine s.portLegal_iff.mpr ⟨h.fits, fun _ => ?_⟩
  unfold State.AtRest
  rw [h.owner]
  exact ⟨hown, hexpired, hidle⟩

theorem State.guaranteeAfter_ne_stopped {s : State} (o : Requester) (h : s.wpa.guarantee ≠ .stopped) :
    s.guaranteeAfter o ≠ .stopped := by
  unfold State.guaranteeAfter
  split
  · exact nofun
  · exact h

/-- An owner that wants the port has not released it. -/
theorem State.guaranteeAfter_of_wants {s : State} {o : Requester} (h : s.wants o = true) :
    s.guaranteeAfter o = s.wpa.guarantee :=
  if_neg fun hn => by simp [h] at hn

theorem State.Owned.afterRelease {s : State} {o : Requester} (h : s.Owned o) : (s.afterRelease o).Owned o :=
  ⟨h.free, h.owner, State.guaranteeAfter_ne_stopped o h.guarantee, h.idle, h.lines⟩

theorem State.Owned.withIdle {s : State} {o : Requester} (h : s.Owned o) {i : IdleTimer} (hi : i ≠ .running 0) :
    State.Owned { s with wpa := { s.wpa with idle := i } } o :=
  ⟨h.free, h.owner, h.guarantee, hi, h.lines⟩

theorem State.Owned.stopIdle {s : State} {o : Requester} (h : s.Owned o) : s.stopIdle.Owned o := h.withIdle nofun

/-! ### Grants and handovers -/

/-- From `s` the port is granted to `r`, which wants it: `r` owns the free port with a guarantee that has not expired, and
the wants are as before (R103 to R105). -/
structure State.Grants (s : State) (r : Requester) (u : State) : Prop where
  owned : u.Owned r
  wants : ∀ x, u.wants x = s.wants x
  wanted : s.wants r = true
  fresh : u.wpa.guarantee ≠ .expired

theorem State.grants_grant {s : State} {r : Requester} (hfree : s.wsc.access = none) (hlines : s.txe.engine.OutOfAccess)
    (hw : s.wants r = true) : s.Grants r (s.grant r) := by
  rw [State.grant_eq]
  exact ⟨⟨hfree, rfl, nofun, nofun, hlines⟩, s.wants_withWpa _, hw, nofun⟩

/-- The ring comes to the requester it starts after only when it has passed the other two (Table 6-2). -/
theorem ring_eq (o : Requester) : ∃ others, ring o = others ++ [o] ∧ ∀ x, x ∈ others ↔ x ≠ o := by
  cases o with
  | hostPath => exact ⟨[.engine, .aux], rfl, fun x => by cases x <;> simp⟩
  | engine => exact ⟨[.aux, .hostPath], rfl, fun x => by cases x <;> simp⟩
  | aux => exact ⟨[.hostPath, .engine], rfl, fun x => by cases x <;> simp⟩

/-- Where another requester wants the port, the ring finds one such (R104). -/
theorem State.nextWanting_other {s : State} {o : Requester} (h : s.otherWants o = true) :
    ∃ r, r ≠ o ∧ s.wants r = true ∧ s.nextWanting o = some r := by
  obtain ⟨x, hne, hx⟩ := (s.otherWants_iff o).mp h
  obtain ⟨others, hring, hothers⟩ := ring_eq o
  obtain ⟨r, hr⟩ := Option.isSome_iff_exists.mp (List.find?_isSome.mpr ⟨x, (hothers x).mpr hne, hx⟩)
  refine ⟨r, (hothers r).mp (List.mem_of_find?_eq_some hr), List.find?_some hr, ?_⟩
  rw [State.nextWanting, hring, List.find?_append, hr]
  rfl

/-- A handover grants the port to another requester that wants it. -/
theorem State.grants_handover {s : State} {o : Requester} (hfree : s.wsc.access = none)
    (hlines : s.txe.engine.OutOfAccess) (forfeit : Bool) (hother : s.otherWants o = true) :
    ∃ r, r ≠ o ∧ s.Grants r (s.handover o forfeit) := by
  obtain ⟨r, hne, hw, hr⟩ := State.nextWanting_other hother
  have hhandover : s.handover o forfeit = (s.leave o forfeit).grant r := by
    unfold State.handover
    rw [hfree, hother, hr]
    rfl
  refine ⟨r, hne, ?_⟩
  rw [hhandover, State.leave_eq, State.grant_eq]
  exact ⟨⟨hfree, rfl, nofun, nofun, hlines⟩, s.wants_withWpa _, hw, nofun⟩

/-- What the arbiter does with an owned free port: it is settled at once, or handed over to another requester that wants
it, or the owner is served. -/
theorem State.Owned.arbitrate {s : State} {o : Requester} (h : s.Owned o) {n : Nat}
    (hnext : ∀ r u, r ≠ o → s.Grants r u → (u.arbitrate n).PortLegal)
    (hserve : s.wants o = true → o ≠ .aux →
      (((s.afterRelease o).stopIdle.serve o).arbitrate n).PortLegal) : (s.arbitrate (n + 1)).PortLegal := by
  have hafter := h.afterRelease
  have hwants (x : Requester) : (s.afterRelease o).wants x = s.wants x := s.wants_withWpa _ x
  have hhandover (forfeit : Bool) (hother : s.otherWants o = true) :
      (((s.afterRelease o).handover o forfeit).arbitrate n).PortLegal := by
    obtain ⟨r, hne, howned, hsame, hw, hfresh⟩ :=
      State.grants_handover hafter.free hafter.lines forfeit hother
    exact hnext r _ hne ⟨howned, fun x => (hsame x).trans (hwants x), (hwants r).symm.trans hw, hfresh⟩
  have hrests (hb : ¬ (s.wants o = true ∧ o ≠ .aux)) (hne : o ≠ .aux) : s.wants o = false := by
    simpa [hne] using hb
  rw [s.arbitrate_owner o n h.free h.owner]
  split
  · exact hhandover false (by simp_all)
  rename_i hnot
  split
  · rename_i hb
    exact hserve hb.1 hb.2
  rename_i hb
  split
  · rename_i hwaits
    have hexpired : s.guaranteeAfter o ≠ .expired := fun he => hnot ⟨he, hwaits.1⟩
    split
    · rename_i hi
      exact hafter.portLegal (fun hne => (hwants o).trans (hrests hb hne)) (fun _ => hexpired)
        (iff_of_true hwaits.1 hi)
    split
    · exact hhandover true hwaits.1
    · rename_i hz
      have hlength : IdleTimer.running (s.wpa.idleWindows.get o).toNat ≠ .running 0 := fun he =>
        hz (BitVec.eq_of_toNat_eq (IdleTimer.running.inj he))
      exact (hafter.withIdle hlength).portLegal (fun hne => (s.wants_withWpa _ o).trans (hrests hb hne))
        (fun _ => hexpired) (iff_of_true hwaits.1 nofun)
  · rename_i hparks
    have halone : ¬ s.otherWants o = true := fun ho =>
      hparks ⟨ho, State.guaranteeAfter_ne_stopped o h.guarantee⟩
    exact State.Owned.portLegal hafter.stopIdle
      (fun hne => (s.wants_withWpa _ o).trans (hrests hb hne)) (fun ho => absurd ho halone)
      (iff_of_false halone fun hn => hn rfl)

/-- HOST_PATH or ENGINE with an unexpired guarantee is served where it wants the port. -/
theorem State.Grants.arbitrate {s u : State} {r : Requester} (h : s.Grants r u) (hr : r ≠ .aux) {n : Nat} :
    u.arbitrate (n + 1) = ((u.afterRelease r).stopIdle.serve r).arbitrate n := by
  have hw : u.wants r = true := (h.wants r).trans h.wanted
  refine State.arbitrate_serves n h.owned.free h.owned.owner (fun he => ?_) ⟨hw, hr⟩
  rw [State.guaranteeAfter_of_wants hw] at he
  exact h.fresh he.1

/-! ### The owner's next access -/

/-- An access started by the owner of a free port leaves it settled. -/
theorem State.Owned.startAccess {s : State} {w : WorkAccess} (h : s.Owned w.requester) :
    (s.startAccess w).wpa.Fits (some w) := by
  have howner : (s.startAccess w).wpa.owner = some w.requester := h.owner
  have hguarantee : (s.startAccess w).wpa.guarantee ≠ .stopped := by
    show (if s.wpa.guarantee = .running 0 then .expired else s.wpa.guarantee) ≠ .stopped
    split
    · exact nofun
    · exact h.guarantee
  refine ⟨fun a ha => ?_, iff_of_false (by rw [howner]; exact nofun) hguarantee, fun _ => rfl, fun _ => rfl, nofun⟩
  cases ha
  exact howner

/-- HOST_PATH served on a free port that it wants starts an access (R43, R47, R49). -/
theorem State.Owned.serveHost {s : State} (h : s.Owned .hostPath) (hw : s.wants .hostPath = true) (n : Nat) :
    (s.serveHost.arbitrate n).PortLegal := by
  have hstarts (w : WorkAccess) (hr : w.requester = .hostPath) (u : State) (hwsc : u.wsc = (s.startAccess w).wsc)
      (hwpa : u.wpa = (s.startAccess w).wpa) : (u.arbitrate n).PortLegal := by
    have ha : u.wsc.access = some w := congrArg Wsc.access hwsc
    rw [u.arbitrate_busy n (by simp [ha])]
    refine State.portLegal_of_busy ?_ (by simp [ha])
    rw [ha, hwpa]
    exact State.Owned.startAccess (by rw [hr]; exact h)
  by_cases hb : s.hbi.buffer = []
  · obtain hn | ⟨c, hc, -⟩ := s.wants_hostPath_iff.mp hw
    · exact absurd hb hn
    rw [State.serveHost_cycle hb hc]
    refine hstarts _ ?_ _ rfl rfl
    split
    all_goals rfl
  · rw [State.serveHost_drain hb]
    exact hstarts .drain rfl _ rfl rfl

theorem State.beginLine_wpa (s : State) (a : ActiveJob) : (s.beginLine a).wpa = s.wpa := by
  unfold State.beginLine
  dsimp only
  repeat' split
  all_goals rfl

theorem State.jobEnd_wpa (s : State) (a : ActiveJob) (o : JobOutcome) (q : Reason) : (s.jobEnd a o q).wpa = s.wpa := by
  unfold State.jobEnd State.retire State.offer State.settleAction
  repeat' split
  all_goals rfl

/-- The completion of a line leaves the arbiter's block: the port is settled after it. -/
theorem State.completeLine_wpa (s : State) (r : LineResult) : (s.completeLine r).wpa = s.wpa :=
  State.completeLine_keeps (fun t => t.wpa = s.wpa) s r rfl s.beginLine_wpa s.jobEnd_wpa

/-- A line that completes brings the job one line nearer to its end, or ends it (R75). -/
theorem State.completeLine_linesLeft {s : State} {a : ActiveJob} (ha : s.txe.engine.active = some a) (r : LineResult) :
    (s.completeLine r).linesLeft < s.linesLeft := by
  have hleft : s.linesLeft = a.job.firstLine + a.job.lineCount - a.nextLine + 1 := by
    unfold State.linesLeft
    rw [ha]
  have hended (b : ActiveJob) (o : JobOutcome) (q : Reason) : (s.jobEnd b o q).linesLeft < s.linesLeft := by
    obtain ⟨-, -, -, hnone⟩ := s.jobEnd_engine b o q
    have hzero : (s.jobEnd b o q).linesLeft = 0 := by
      unfold State.linesLeft
      rw [hnone]
    omega
  unfold State.completeLine
  split
  · exact hended _ _ _
  · rename_i b hb
    obtain rfl : b = a := by simpa [hb, EngineState.active] using ha
    split
    · exact hended _ _ _
    split
    · exact hended _ _ _
    · rename_i hlast
      simp only [ActiveJob.atLast, decide_eq_true_eq, Nat.not_le] at hlast
      obtain ⟨st, htxe, -⟩ := s.beginLine_engine { b.count r with nextLine := b.nextLine + 1 }
      have hnext : (s.beginLine { b.count r with nextLine := b.nextLine + 1 }).linesLeft
          = b.job.firstLine + b.job.lineCount - (b.nextLine + 1) + 1 := by
        unfold State.linesLeft
        rw [htxe]
        rfl
      omega
  · rename_i hdraining hrunning
    cases he : s.txe.engine with
    | idle | retiring => simp [he, EngineState.active] at ha
    | running b => exact absurd he (hrunning b)
    | draining b => exact absurd he (hdraining b)

/-- What ENGINE, served, leaves where it starts no access: the arbiter's block, the host path and the aux port are as
before, and ENGINE wants the port no more (R69). -/
structure State.LinesSkipped (s t : State) : Prop where
  wpa   : t.wpa = s.wpa
  same  : s.SameButEngine t
  lines : t.txe.engine.OutOfAccess
  done  : t.txe.engine.wantsWork = false

theorem State.LinesSkipped.of_completeLine {s t : State} {r : LineResult} (h : (s.completeLine r).LinesSkipped t) :
    s.LinesSkipped t := by
  obtain ⟨hwpa, ⟨hhbi, hwsc, houtside⟩, hlines, hdone⟩ := h
  obtain ⟨khbi, kwsc, koutside⟩ := s.completeLine_sameButEngine r
  exact ⟨hwpa.trans (s.completeLine_wpa r), ⟨hhbi.trans khbi, hwsc.trans kwsc, koutside.trans houtside⟩, hlines, hdone⟩

/-- ENGINE served on a free port starts an access, or has skipped every line that wanted one: as many as the job has left
are enough (R68, R69; log entry 18). -/
theorem State.serveEngine_cases {s : State} (hlines : s.txe.engine.OutOfAccess) {n : Nat} (hn : s.linesLeft ≤ n) :
    (∃ (u : State) (st : LineStage) (w : WorkAccess),
      State.serveEngine n s = u.startLine st w ∧ w.requester = .engine ∧ u.wpa = s.wpa)
      ∨ s.LinesSkipped (State.serveEngine n s) := by
  have hskipped (h : s.txe.engine.wantsWork = false) : s.LinesSkipped s :=
    ⟨rfl, ⟨rfl, rfl, by simp [State.SameOutside]⟩, hlines, h⟩
  induction n generalizing s with
  | zero =>
    refine .inr (hskipped ?_)
    unfold State.linesLeft at hn
    unfold EngineState.wantsWork
    cases ha : s.txe.engine.active with
    | none => rfl
    | some a => simp [ha] at hn
  | succ n ih =>
    cases ha : s.txe.engine.active with
    | none =>
      have hsame : State.serveEngine (n + 1) s = s := by simp [State.serveEngine, ha]
      rw [hsame]
      exact .inr (hskipped (by simp [EngineState.wantsWork, ha]))
    | some a =>
      cases hs : a.stage with
      | awaitWork d =>
        by_cases hk : a.job.kind = .verify
        · rw [State.serveEngine_verify n s a d ha hs hk]
          exact .inl ⟨s, _, _, rfl, rfl, rfl⟩
        rw [State.serveEngine_write n s a d ha hs hk]
        split
        · have hleft := State.completeLine_linesLeft ha .skipped
          have hout := s.completeLine_outOfAccess .skipped
          rcases ih hout (by omega) fun h =>
              ⟨rfl, ⟨rfl, rfl, by simp [State.SameOutside]⟩, hout, h⟩ with ⟨u, st, w, hu, hw, hwpa⟩ | h
          · exact .inl ⟨u, st, w, hu, hw, hwpa.trans (s.completeLine_wpa _)⟩
          · exact .inr h.of_completeLine
        · exact .inl ⟨s, _, _, rfl, rfl, rfl⟩
      | awaitBoot | bootRead =>
        have hsame : State.serveEngine (n + 1) s = s := by simp [State.serveEngine, ha, hs]
        rw [hsame]
        exact .inr (hskipped (by simp [EngineState.wantsWork, ha, hs]))
      | workWrite | workRead => exact absurd (hlines a ha) (by simp [hs, LineStage.inAccess])

/-! ### How much the arbiter does in one event -/

theorem State.wants_engine_free {s : State} (ha : s.wsc.access = none) :
    s.wants .engine = s.txe.engine.wantsWork := by
  simp [State.wants, ha]

/-- HOST_PATH is granted the port: one thing, its access. -/
theorem State.Grants.settles_hostPath {s u : State} (h : s.Grants .hostPath u) (n : Nat) :
    (u.arbitrate (n + 1)).PortLegal := by
  have hw : u.wants .hostPath = true := (h.wants _).trans h.wanted
  rw [h.arbitrate nofun]
  exact State.Owned.serveHost h.owned.afterRelease.stopIdle ((State.wants_withWpa ..).trans hw) n

/-- AUX owns the port and ENGINE does not want it: AUX stays, or HOST_PATH takes over. -/
theorem State.Owned.settles_aux_alone {s : State} (h : s.Owned .aux) (he : s.wants .engine = false) (n : Nat) :
    (s.arbitrate (n + 2)).PortLegal := by
  refine h.arbitrate (fun r u hne hu => ?_) fun _ hn => absurd rfl hn
  cases r with
  | hostPath => exact hu.settles_hostPath n
  | engine => exact absurd hu.wanted (by simp [he])
  | aux => exact absurd rfl hne

/-- ENGINE owns the port without wanting it: it stays, or HOST_PATH or AUX takes over. -/
theorem State.Owned.settles_engine_unwanted {s : State} (h : s.Owned .engine) (he : s.wants .engine = false) (n : Nat) :
    (s.arbitrate (n + 3)).PortLegal := by
  refine h.arbitrate (fun r u hne hu => ?_) fun hw => absurd hw (by simp [he])
  cases r with
  | hostPath => exact hu.settles_hostPath (n + 1)
  | engine => exact absurd rfl hne
  | aux => exact hu.owned.settles_aux_alone ((hu.wants _).trans he) n

/-- ENGINE served starts an access, or skips its lines and no longer wants the port. -/
theorem State.Owned.serveEngine {s : State} (h : s.Owned .engine) (n : Nat) :
    ((s.serve .engine).arbitrate (n + 3)).PortLegal := by
  show ((State.serveEngine s.linesLeft s).arbitrate (n + 3)).PortLegal
  rcases State.serveEngine_cases h.lines (Nat.le_refl _) with ⟨u, st, w, hu, hw, hwpa⟩ | ht
  · rw [hu]
    have hbusy : (u.startLine st w).wsc.access ≠ none := Option.some_ne_none w
    rw [State.arbitrate_busy _ _ hbusy]
    refine State.portLegal_of_busy ?_ hbusy
    have hfits : ((s.startAccess w).wpa).Fits (some w) := State.Owned.startAccess (by rw [hw]; exact h)
    have hsame : (u.startLine st w).wpa = (s.startAccess w).wpa := by
      show (u.startAccess w).wpa = _
      unfold State.startAccess
      rw [hwpa]
    rw [hsame]
    exact hfits
  · generalize State.serveEngine s.linesLeft s = t at ht
    obtain ⟨hwpa, ⟨-, hwsc, -⟩, hlines, hdone⟩ := ht
    have hfree : t.wsc.access = none := by rw [hwsc, h.free]
    refine State.Owned.settles_engine_unwanted ⟨hfree, ?_, ?_, ?_, hlines⟩
      ((State.wants_engine_free hfree).trans hdone) n
    · rw [hwpa, h.owner]
    · rw [hwpa]
      exact h.guarantee
    · rw [hwpa]
      exact h.idle

theorem State.Grants.settles_engine {s u : State} (h : s.Grants .engine u) (n : Nat) :
    (u.arbitrate (n + 4)).PortLegal := by
  rw [h.arbitrate nofun]
  exact State.Owned.serveEngine h.owned.afterRelease.stopIdle n

/-- After a grant at most five things are left to do: AUX forfeits an idle window of 0 to ENGINE, which skips its lines;
AUX takes over again, and forfeits to HOST_PATH, which starts its access. -/
theorem State.Grants.settles {s u : State} {r : Requester} (h : s.Grants r u) (n : Nat) :
    (u.arbitrate (n + 5)).PortLegal := by
  cases r with
  | hostPath => exact h.settles_hostPath (n + 4)
  | engine => exact h.settles_engine (n + 1)
  | aux =>
    refine h.owned.arbitrate (fun r v hne hv => ?_) fun _ hn => absurd rfl hn
    cases r with
    | hostPath => exact hv.settles_hostPath (n + 3)
    | engine => exact hv.settles_engine n
    | aux => exact absurd rfl hne

theorem State.Owned.settles {s : State} {o : Requester} (h : s.Owned o) (n : Nat) :
    (s.arbitrate (n + 6)).PortLegal := by
  refine h.arbitrate (fun r u _ hu => hu.settles n) fun hw hne => ?_
  have hserved : ((s.afterRelease o).stopIdle).Owned o := h.afterRelease.stopIdle
  cases o with
  | hostPath => exact hserved.serveHost ((State.wants_withWpa ..).trans hw) _
  | engine => exact hserved.serveEngine (n + 2)
  | aux => exact absurd rfl hne

/-! ### The settling of the port -/

/-- With no owner the port is at rest where the ring finds no requester that wants it. -/
theorem State.atRest_of_unwanted {s : State} {last : Requester} (ho : s.wpa.owner = none)
    (hn : s.nextWanting last = none) : s.AtRest := by
  unfold State.AtRest
  rw [ho]
  intro r
  have hring : r ∈ ring last := by
    obtain ⟨others, hring, hothers⟩ := ring_eq last
    by_cases hr : r = last
    · simp [hring, hr]
    · simp [hring, (hothers r).mpr hr]
  simpa using List.find?_eq_none.mp hn r hring

/-- What the settling of the port rests on: the arbiter's block agrees with the access in progress, and with none in
progress no line is in one. -/
def State.Arbitrable (s : State) : Prop :=
  s.wpa.Fits s.wsc.access ∧ (s.wsc.access = none → s.txe.engine.OutOfAccess)

/-- One event's work settles the port: six things are enough (log entry 18). -/
theorem State.Arbitrable.settle {s : State} (h : s.Arbitrable) : s.settle.PortLegal := by
  obtain ⟨hfits, hlines⟩ := h
  by_cases ha : s.wsc.access = none
  · cases ho : s.wpa.owner with
    | some o =>
      exact State.Owned.settles ⟨ha, ho, fun hn => by simp [hfits.guarantee.mpr hn] at ho, hfits.idle, hlines ha⟩ 2
    | none =>
      unfold State.settle State.arbitrate
      simp only [ha, ho, Option.isSome_none, Bool.false_eq_true, if_false]
      split
      · rename_i hnone
        exact s.portLegal_iff.mpr ⟨hfits, fun _ => State.atRest_of_unwanted ho hnone⟩
      · rename_i r hr
        exact (State.grants_grant ha (hlines ha) (List.find?_some hr)).settles 2
  · rw [s.settle_busy ha]
    exact State.portLegal_of_busy hfits ha

end Sys2Proof.Machine
end

section
/-! PROOF. The Work Store port over every command (O13): each leaves what the port's legality stands in, or ends by
settling the port. -/

namespace Sys2Proof.Machine

/-! ### What the legality of the port stands in -/

/-- The access in progress, the owner and its timers, and what each block says of its want. -/
structure Berth where
  access    : Option WorkAccess
  owner     : Option Requester
  guarantee : GuaranteeTimer
  idle      : IdleTimer
  hostPath  : Bool
  engine    : Bool
  aux       : Bool

/-- The berth of a state. -/
def State.berth (s : State) : Berth :=
  { access := s.wsc.access, owner := s.wpa.owner, guarantee := s.wpa.guarantee, idle := s.wpa.idle
    hostPath := s.hbi.wantsWork, engine := s.txe.engine.wantsWork, aux := s.amp.areq && !s.inReset }

theorem State.PortLegal.of_berth {s t : State} (h : s.PortLegal) (e : t.berth = s.berth) : t.PortLegal := by
  simp only [State.berth, Berth.mk.injEq] at e
  obtain ⟨haccess, howner, hguarantee, hidle, hhost, hengine, haux⟩ := e
  have hwants (r : Requester) : t.wants r = s.wants r := by
    cases r with
    | hostPath => exact hhost
    | engine => simp only [State.wants, hengine, haccess]
    | aux => exact haux
  have hother (o : Requester) : t.otherWants o = s.otherWants o := by simp only [State.otherWants, hwants]
  unfold State.PortLegal at h ⊢
  simp only [haccess, howner, hguarantee, hidle, hwants, hother]
  exact h

theorem State.Consistent.portLegal {s : State} (h : s.Consistent) : s.PortLegal := by
  obtain ⟨-, -, -, -, -, hport, -⟩ := h
  exact hport

theorem State.Consistent.fits {s : State} (h : s.Consistent) : s.wpa.Fits s.wsc.access :=
  (s.portLegal_iff.mp h.portLegal).1

theorem State.Consistent.arbitrable {s : State} (h : s.Consistent) : s.Arbitrable :=
  ⟨h.fits, fun ha => ((State.accessLegal_iff_free ha).mp h.workLegal.access).2.1⟩

/-- The settling of the port turns on the arbiter's block, the access in progress and the engine alone. -/
theorem State.Arbitrable.of_eq {s v : State} (h : s.Arbitrable) (hwpa : v.wpa = s.wpa)
    (hwsc : v.wsc.access = s.wsc.access) (hengine : v.txe.engine = s.txe.engine) : v.Arbitrable := by
  unfold State.Arbitrable at h ⊢
  rw [hwpa, hwsc, hengine]
  exact h

theorem ButWork.arbitrable {s v : State} (h : ButWork s v) (hs : s.Arbitrable) : v.Arbitrable := by
  unfold ButWork at h
  rw [h]
  exact hs

/-- The access in progress has ended, and no line is in an access. -/
theorem State.Consistent.arbitrable_of_freed {s v : State} (h : s.Consistent) (hwpa : v.wpa = s.wpa)
    (hfree : v.wsc.access = none) (hlines : v.txe.engine.OutOfAccess) : v.Arbitrable := by
  refine ⟨?_, fun _ => hlines⟩
  rw [hwpa, hfree]
  exact h.fits.freed

/-- The outputs are no part of the port. -/
theorem State.portLegal_of_done {t v : State} (e : v.done = .next t) (h : v.PortLegal) : t.PortLegal := by
  simp only [State.done, Host.Outcome.next.injEq] at e
  subst e
  exact h

theorem State.portLegal_of_settled {t v : State} (e : v.settle.done = .next t) (h : v.Arbitrable) : t.PortLegal :=
  State.portLegal_of_done e h.settle

/-! ### Host cycles -/

/-- A host path without a cycle that waits for the Work Store, or is in it, wants the port for its buffer alone (R101). -/
theorem Hbi.wantsWork_of_buffer {h : Hbi}
    (hc : ∀ c ∈ h.cycle, c.stage ≠ .awaitDrain ∧ c.stage ≠ .awaitWork ∧ c.stage ≠ .workAccess) :
    h.wantsWork = !h.buffer.isEmpty := by
  unfold Hbi.wantsWork
  cases hcycle : h.cycle with
  | none => simp
  | some c =>
    obtain ⟨hdrain, hwork, haccess⟩ := hc c hcycle
    simp [hdrain, hwork, haccess]

theorem Hbi.wantsWork_of_free {h : Hbi} (hc : h.cycle = none) : h.wantsWork = !h.buffer.isEmpty :=
  Hbi.wantsWork_of_buffer fun c hx => by simp [hc] at hx

theorem Hbi.wantsWork_of_held {h : Hbi} {c : HostCycle} (hc : h.cycle = some c)
    (hs : c.stage ≠ .awaitDrain ∧ c.stage ≠ .awaitWork ∧ c.stage ≠ .workAccess) : h.wantsWork = !h.buffer.isEmpty :=
  Hbi.wantsWork_of_buffer fun d hd => by rwa [Option.mem_unique hd hc]

/-- Only the host path has changed, and its want is the same. -/
theorem State.berth_of_host {s v : State} (hhost : v.hbi.wantsWork = s.hbi.wantsWork)
    (e : { v.berth with hostPath := s.hbi.wantsWork } = s.berth) : v.berth = s.berth := by
  rw [← e, ← hhost]
  rfl

theorem State.arriveRoute_portLegal {s : State} (hs : s.Consistent) (c : MemoryCycle) (claimed : Bool) (r : Route)
    (hf : s.busFree = true) :
    ((s.arrive .memory (wordAddr c.ha) c.dir claimed).arriveRoute c r).PortLegal := by
  obtain ⟨hc, -⟩ := s.busFree_iff.mp hf
  have hwant := Hbi.wantsWork_of_free hc
  have hrefused (kind : FaultKind) (b : Fin 64) (fa : FaultAction) (data : Option LaneData) :
      ((s.arrive .memory (wordAddr c.ha) c.dir claimed).endRefused kind (wordAddr c.ha) c.dir b fa data).PortLegal := by
    rw [State.endRefused_eq]
    split
    all_goals
      exact hs.portLegal.of_berth (State.berth_of_host ((Hbi.wantsWork_of_free rfl).trans hwant.symm) rfl)
  have hwork (off : Offset) (b : Fin 64) (ov : Option (Fin 16)) :
      ((s.arrive .memory (wordAddr c.ha) c.dir claimed).arriveWork c off b ov).PortLegal :=
    State.Arbitrable.settle (hs.arbitrable.of_eq rfl rfl rfl)
  cases r with
  | notClaimed => exact hs.portLegal.of_berth rfl
  | discard b fa => exact hrefused .discardedWrite b fa none
  | closed b fa => exact hrefused .closedAccess b fa _
  | bootRead off b =>
    show (State.arriveBootRead c off b _).PortLegal
    unfold State.arriveBootRead
    split
    · exact hs.portLegal.of_berth (State.berth_of_host ((Hbi.wantsWork_of_held
        (c := heldCycle c off b none .bootAccess) rfl ⟨nofun, nofun, nofun⟩).trans hwant.symm) rfl)
    · exact hs.portLegal.of_berth (State.berth_of_host ((Hbi.wantsWork_of_held
        (c := heldCycle c off b none .awaitBoot) rfl ⟨nofun, nofun, nofun⟩).trans hwant.symm) rfl)
  | workRead off b ov => exact hwork off b ov
  | workWrite off b ov =>
    show State.PortLegal (if s.hbi.postingEnable then State.arrivePosted c off b ov _ else _)
    split
    · unfold State.arrivePosted
      dsimp only
      split
      all_goals exact State.Arbitrable.settle (hs.arbitrable.of_eq rfl rfl rfl)
    · exact hwork off b ov

theorem execHostMemoryCycleArrival_portLegal {c : MemoryCycle} {s t : State} (hs : s.Consistent)
    (h : execHostMemoryCycleArrival c s = .next t) : t.PortLegal := by
  unfold execHostMemoryCycleArrival at h
  split at h
  · cases h
  split at h
  · cases h
  rename_i hf
  split at h
  · exact State.portLegal_of_done h (hs.portLegal.of_berth rfl)
  · exact State.portLegal_of_done h (State.arriveRoute_portLegal hs c _ _ (by simpa using hf))

theorem execUnclaimedIoCycle_portLegal {dir : Direction} {c : IoCycle} {s t : State} (hs : s.Consistent)
    (h : execUnclaimedIoCycle dir c s = .next t) : t.PortLegal := by
  unfold execUnclaimedIoCycle at h
  split at h
  · cases h
  split at h
  · cases h
  split at h
  · exact State.portLegal_of_done h (hs.portLegal.of_berth rfl)
  split at h
  · cases dir with
    | read => exact State.portLegal_of_done h (hs.portLegal.of_berth rfl)
    | write => cases h
  · exact State.portLegal_of_done h (hs.portLegal.of_berth rfl)

theorem execUnclaimedCycleEnd_portLegal {s t : State} (hs : s.Consistent)
    (h : execUnclaimedCycleEnd s = .next t) : t.PortLegal := by
  unfold execUnclaimedCycleEnd at h
  split at h
  · cases h
  · exact State.portLegal_of_done h (hs.portLegal.of_berth rfl)

theorem execHostWaitTimeout_portLegal {s t : State} (hs : s.Consistent) (h : execHostWaitTimeout s = .next t) :
    t.PortLegal := by
  unfold execHostWaitTimeout at h
  split at h
  · cases h
  split at h
  · cases h
  split at h
  · cases h
  · exact State.portLegal_of_settled h (hs.arbitrable.of_eq rfl rfl rfl)

/-- A line that asks for the Boot Store wants no Work Store access, nor does it when its read starts (R67, R101). -/
theorem State.BootPortLegal.setStage_wantsWork {s : State} (h : s.BootPortLegal) (hq : s.bsc.engineRequest ≠ none) :
    (s.txe.engine.mapActive fun a => { a with stage := .bootRead }).wantsWork = s.txe.engine.wantsWork := by
  obtain ⟨-, -, hrequest, -⟩ := h
  unfold EngineState.wantsWork
  rw [EngineState.mapActive_active]
  cases ha : s.txe.engine.active with
  | none => rfl
  | some a =>
    rw [hrequest, ha] at hq
    by_cases hs : a.stage = .awaitBoot
    · simp [hs]
    · exact absurd (if_neg hs) hq

/-- With no host read waiting the Boot Store port passes on to the engine at most, and the Work Store port stays. -/
theorem State.BootPortLegal.bootNext_berth {s : State} (h : s.BootPortLegal) (hr : s.bsc.hostRequest = none) :
    s.bootNext.berth = s.berth := by
  unfold State.bootNext
  rw [hr]
  dsimp only
  split
  · rename_i off hq
    exact congrArg (fun b => { s.berth with engine := b }) (h.setStage_wantsWork (by simp [hq]))
  · rfl

theorem execHostBootReadComplete_portLegal {s t : State} (hs : s.Consistent)
    (h : execHostBootReadComplete s = .next t) : t.PortLegal := by
  unfold execHostBootReadComplete at h
  split at h
  · rename_i b c hb hc
    split at h
    · rename_i hu
      obtain ⟨-, -, hhost, hboot, -⟩ := id hs
      obtain ⟨-, -, hrequest, hreads, -⟩ := (State.hostLegal_iff_held hc).mp hhost
      have hstage : c.stage = .bootAccess := hreads.mp ⟨b, hb, hu⟩
      have hnone : s.bsc.hostRequest = none := by simpa [hstage] using hrequest
      have hwant : s.hbi.wantsWork = !s.hbi.buffer.isEmpty := Hbi.wantsWork_of_held hc (by simp [hstage])
      have hended (a : HostAnswer) : (s.endCycle a).bootNext.berth = s.berth :=
        (State.BootPortLegal.bootNext_berth (s := s.endCycle a) hboot hnone).trans
          (State.berth_of_host ((Hbi.wantsWork_of_free rfl).trans hwant.symm) rfl)
      exact State.portLegal_of_done h (hs.portLegal.of_berth (hended _))
    · cases h
  · cases h

theorem execHostWorkReadComplete_portLegal {s t : State} (hs : s.Consistent)
    (h : execHostWorkReadComplete s = .next t) : t.PortLegal := by
  unfold execHostWorkReadComplete at h
  split at h
  · rename_i check c ha hc
    have hfreed : s.endAccess.Arbitrable :=
      hs.arbitrable_of_freed rfl rfl ((hs.workLegal.access.others ha).2.1 nofun)
    dsimp only at h
    rw [State.handFault_unless] at h
    exact State.portLegal_of_settled h (hfreed.of_eq rfl rfl rfl)
  · cases h

theorem execUnpostedWriteComplete_portLegal {s t : State} (hs : s.Consistent)
    (h : execUnpostedWriteComplete s = .next t) : t.PortLegal := by
  unfold execUnpostedWriteComplete at h
  split at h
  · rename_i c ha hc
    have hbut : ButWork s.endAccess (s.endAccess.writeLanes c.offset c.lanes c.data) := State.writeWork_butWork ..
    refine State.portLegal_of_settled h (((hbut.mark c.offset c.lanes).endCycle .readyWrite).arbitrable ?_)
    exact hs.arbitrable_of_freed rfl rfl ((hs.workLegal.access.others ha).2.1 nofun)
  · cases h

/-- What a drain does for the waiting cycle concerns neither the arbiter, nor the access, nor the engine's lines. -/
theorem State.afterDrain_keeps (s : State) :
    s.afterDrain.wpa = s.wpa ∧ s.afterDrain.wsc = s.wsc ∧ s.afterDrain.txe.engine = s.txe.engine := by
  unfold State.afterDrain
  repeat' split
  all_goals exact ⟨rfl, rfl, rfl⟩

theorem execDrainComplete_portLegal {s t : State} (hs : s.Consistent) (h : execDrainComplete s = .next t) :
    t.PortLegal := by
  unfold execDrainComplete at h
  split at h
  · rename_i e rest ha hb
    have hbut : ButWork s.endAccess (s.endAccess.writeLanes e.offset e.lanes e.data) := State.writeWork_butWork ..
    refine State.portLegal_of_settled h ((hbut.withBuffer rest).afterDrain.arbitrable ?_)
    obtain ⟨hwpa, hwsc, hengine⟩ :=
      State.afterDrain_keeps { s.endAccess with hbi := { s.endAccess.hbi with buffer := rest } }
    refine hs.arbitrable_of_freed hwpa (by rw [hwsc]; rfl) ?_
    rw [hengine]
    exact (hs.workLegal.access.others ha).2.1 nofun
  · cases h

/-! ### The engine -/

theorem State.Arbitrable.setStage {s : State} (h : s.Arbitrable) {st : LineStage} (hst : st.inAccess = false) :
    (s.setStage st).Arbitrable :=
  ⟨h.1, fun _ => s.txe.engine.mapActive_outOfAccess hst⟩

theorem State.Arbitrable.bootNext {s : State} (h : s.Arbitrable) : s.bootNext.Arbitrable := by
  unfold State.bootNext
  split
  · exact h.of_eq rfl rfl rfl
  split
  · exact State.Arbitrable.setStage (h.of_eq rfl rfl rfl) rfl
  · exact h.of_eq rfl rfl rfl

theorem execActivation_portLegal {s t : State} (hs : s.Consistent) (h : execActivation s = .next t) : t.PortLegal := by
  unfold execActivation at h
  split at h
  · rename_i j rest hidle hq
    dsimp only at h
    split at h
    · rw [State.retire_unapplied _ _ _ _ (actionResult_failed _ _)] at h
      refine State.portLegal_of_done h (hs.portLegal.of_berth ?_)
      have hwant : s.txe.engine.wantsWork = false := by rw [hidle]; rfl
      unfold State.offer State.berth
      rw [hwant]
      split
      all_goals rfl
    · refine State.portLegal_of_settled h ⟨?_, fun _ => State.beginLine_outOfAccess _ _⟩
      rw [State.beginLine_wpa, (State.beginLine_sameButEngine _ _).2.1]
      exact hs.fits
  · cases h

theorem execEngineBootReadComplete_portLegal {s t : State} (hs : s.Consistent)
    (h : execEngineBootReadComplete s = .next t) : t.PortLegal := by
  unfold execEngineBootReadComplete at h
  split at h
  · split at h
    · split at h
      · exact State.portLegal_of_settled h hs.arbitrable.bootNext
      · exact State.portLegal_of_settled h (State.Arbitrable.bootNext (hs.arbitrable.setStage rfl))
    · cases h
  · cases h

/-- The access of a line ends and the line completes (R69, R75). -/
theorem State.Consistent.arbitrable_of_lineCompleted {s v : State} (hs : s.Consistent) (hwpa : v.wpa = s.wpa)
    (hfree : v.wsc.access = none) (r : LineResult) : (v.completeLine r).Arbitrable := by
  obtain ⟨-, hwsc, -⟩ := v.completeLine_sameButEngine r
  exact hs.arbitrable_of_freed ((v.completeLine_wpa r).trans hwpa) (by rw [hwsc, hfree]) (v.completeLine_outOfAccess r)

/-- The access of a line whose job was discarded ends (R84). -/
theorem State.Consistent.arbitrable_of_lineDropped {s : State} (hs : s.Consistent) {w : WorkAccess}
    (ha : s.wsc.access = some w) (hw : w.drop = w) : s.endAccess.Arbitrable :=
  hs.arbitrable_of_freed rfl rfl (hs.workLegal.access.dropped ha hw)

theorem execLineWriteComplete_portLegal {s t : State} (hs : s.Consistent) (h : execLineWriteComplete s = .next t) :
    t.PortLegal := by
  unfold execLineWriteComplete at h
  split at h
  · rename_i off data mask dropped ha
    have hbut : ButWork s.endAccess (s.endAccess.writeLine off mask data) := State.writeWork_butWork ..
    dsimp only at h
    split at h
    · rename_i hd
      subst hd
      exact State.portLegal_of_settled h (hbut.arbitrable (hs.arbitrable_of_lineDropped ha rfl))
    · refine State.portLegal_of_settled h (hs.arbitrable_of_lineCompleted ?_ ?_ _)
      all_goals
        rw [hbut]
        rfl
  · cases h

theorem execVerifyReadComplete_portLegal {s t : State} (hs : s.Consistent) (h : execVerifyReadComplete s = .next t) :
    t.PortLegal := by
  unfold execVerifyReadComplete at h
  split at h
  · rename_i off check dropped ha
    split at h
    · rename_i hd
      subst hd
      exact State.portLegal_of_settled h (hs.arbitrable_of_lineDropped ha rfl)
    split at h
    · split at h
      · split at h
        · rename_i f _
          exact State.portLegal_of_settled h
            (hs.arbitrable_of_lineCompleted (v := s.endAccess.handFault f) rfl rfl .mismatch)
        · exact State.portLegal_of_settled h (hs.arbitrable_of_lineCompleted (v := s.endAccess) rfl rfl .plain)
      · cases h
    · cases h
  · cases h

/-! ### The arbiter and the auxiliary port -/

/-- A tick stops no guarantee that runs or has expired, and starts none. -/
theorem GuaranteeTimer.tick_eq_stopped_iff (g : GuaranteeTimer) : g.tick = .stopped ↔ g = .stopped := by
  rcases g with _ | (_ | _ | n) | _
  all_goals simp [GuaranteeTimer.tick]

theorem IdleTimer.tick_eq_stopped_iff (i : IdleTimer) : i.tick = .stopped ↔ i = .stopped := by
  rcases i with _ | (_ | n)
  all_goals simp [IdleTimer.tick]

/-- The timers of a tick in which the idle timer does not reach its length (R105, R179). -/
theorem Wpa.Fits.ticked {s : State} (h : s.wpa.Fits s.wsc.access) (hi : s.wpa.idle.tick ≠ .running 0) :
    s.ticked.wpa.Fits s.ticked.wsc.access := by
  rw [State.ticked_eq]
  obtain ⟨howner, hguarantee, hunowned, hbusy, -⟩ := h
  exact ⟨howner, hguarantee.trans (GuaranteeTimer.tick_eq_stopped_iff _).symm,
    fun hn => (IdleTimer.tick_eq_stopped_iff _).mpr (hunowned hn),
    fun ha => (IdleTimer.tick_eq_stopped_iff _).mpr (hbusy ha), hi⟩

theorem State.Consistent.tick_portLegal {s : State} (hs : s.Consistent) : s.tick.PortLegal := by
  have hfits := hs.fits
  rcases s.tick_cases with ⟨o, hi, ho, heq⟩ | ⟨hnone, heq⟩
  · -- the idle timer of the owner has run, so the port is free and another requester waits for it
    have hrunning : s.wpa.idle = .running 1 := (IdleTimer.tick_eq_zero_iff hfits.idle).mp hi
    have hfree : s.wsc.access = none := by
      by_contra hbusy
      simp [hfits.busy hbusy] at hrunning
    have hrest := (s.portLegal_iff.mp hs.portLegal).2 hfree
    unfold State.AtRest at hrest
    rw [ho] at hrest
    have hother : s.otherWants o = true := hrest.2.2.mpr (by rw [hrunning]; exact nofun)
    have hgrants : ∃ r, r ≠ o ∧ s.ticked.Grants r (s.ticked.handover o true) := by
      rw [State.ticked_eq]
      exact State.grants_handover (by exact hfree) (by exact hs.arbitrable.2 hfree) true (by exact hother)
    obtain ⟨r, -, howned, -⟩ := hgrants
    rw [heq]
    exact howned.settles 2
  · rw [heq]
    refine State.Arbitrable.settle ⟨hfits.ticked fun hi => ?_, ?_⟩
    · rw [hfits.unowned (hnone hi)] at hi
      cases hi
    · rw [State.ticked_eq]
      exact hs.arbitrable.2

theorem execGuaranteeExpiry_portLegal {s t : State} (hs : s.Consistent) (h : execGuaranteeExpiry s = .next t) :
    t.PortLegal := by
  unfold execGuaranteeExpiry at h
  split at h
  · exact State.portLegal_of_done h hs.tick_portLegal
  · cases h

theorem execIdleExpiry_portLegal {s t : State} (hs : s.Consistent) (h : execIdleExpiry s = .next t) :
    t.PortLegal := by
  unfold execIdleExpiry at h
  split at h
  · exact State.portLegal_of_done h hs.tick_portLegal
  · cases h

/-- The idle timer of a resuming AUX stops (R107). -/
theorem Wpa.Fits.stopIdle {w : Wpa} {access : Option WorkAccess} (h : w.Fits access) :
    Wpa.Fits { w with idle := .stopped } access :=
  ⟨h.owner, h.guarantee, fun _ => rfl, fun _ => rfl, nofun⟩

theorem execAreqAssert_portLegal {s t : State} (hs : s.Consistent) (h : execAreqAssert s = .next t) :
    t.PortLegal := by
  unfold execAreqAssert at h
  split at h
  · cases h
  dsimp only at h
  split at h
  · rename_i hr
    exact State.portLegal_of_done h (hs.portLegal.of_berth (by simp [State.berth, hr]))
  · refine State.portLegal_of_settled h ?_
    unfold State.resumeAux
    split
    · exact ⟨hs.fits.stopIdle, hs.arbitrable.2⟩
    · exact hs.arbitrable.of_eq rfl rfl rfl

theorem execAreqDeassert_portLegal {s t : State} (hs : s.Consistent) (h : execAreqDeassert s = .next t) :
    t.PortLegal := by
  unfold execAreqDeassert at h
  split at h
  · cases h
  dsimp only at h
  split at h
  · rename_i hr
    exact State.portLegal_of_done h (hs.portLegal.of_berth (by simp [State.berth, hr]))
  · exact State.portLegal_of_settled h (hs.arbitrable.of_eq rfl rfl rfl)

/-- With AGNT asserted between aux cycles AUX owns the free port (R109). -/
theorem State.Consistent.owned_of_agnt {s : State} (hs : s.Consistent) (hc : s.amp.cycle = .noCycle)
    (hg : s.pins.agnt = true) : s.Owned .aux := by
  obtain ⟨-, hfree⟩ := hs.free_of_agnt hc hg
  obtain ⟨-, -, -, -, -, -, -, -, ⟨-, hagnt, -⟩⟩ := id hs
  obtain ⟨howner, -⟩ := s.agntLevel_iff.mp (hagnt ▸ hg)
  exact ⟨hfree, howner, fun hn => by simp [hs.fits.guarantee.mpr hn] at howner, hs.fits.idle, hs.arbitrable.2 hfree⟩

theorem execAuxCycleStart_portLegal {c : AuxRequest} {s t : State} (hs : s.Consistent)
    (h : execAuxCycleStart c s = .next t) : t.PortLegal := by
  unfold execAuxCycleStart at h
  split at h
  · cases h
  split at h
  · exact State.portLegal_of_done h (hs.portLegal.of_berth rfl)
  split at h
  · rename_i hc
    dsimp only at h
    split at h
    · exact State.portLegal_of_done h (hs.portLegal.of_berth rfl)
    rename_i hg
    split at h
    · exact State.portLegal_of_done h (hs.portLegal.of_berth rfl)
    split at h
    · exact State.portLegal_of_done h (hs.portLegal.of_berth rfl)
    · obtain ⟨hfree, howner, hguarantee, hidle, hlines⟩ := hs.owned_of_agnt hc (by simpa using hg)
      exact State.portLegal_of_done h (State.portLegal_of_busy (State.Owned.startAccess
        (w := .aux s.wsc.parityCheck) ⟨hfree, howner, hguarantee, hidle, hlines⟩) (Option.some_ne_none _))
  · cases h

theorem State.auxEffect_wpa (s : State) (c : AuxCycle) (check : Bool) : (s.auxEffect c check).1.wpa = s.wpa := by
  unfold State.auxEffect
  split
  · have hbut : ButWork s (s.writeLanes c.offset c.lanes c.data) := State.writeWork_butWork ..
    dsimp only
    rw [hbut]
    rfl
  · dsimp only
    rw [State.handFault_unless]

theorem execAuxAccessComplete_portLegal {s t : State} (hs : s.Consistent)
    (h : execAuxAccessComplete s = .next t) : t.PortLegal := by
  unfold execAuxAccessComplete at h
  split at h
  · rename_i check c ha hc
    have hwpa := s.endAccess.auxEffect_wpa c check
    obtain ⟨hwsc, -, hengine, -⟩ := s.endAccess.auxEffect_keeps c check
    generalize s.endAccess.auxEffect c check = x at h hwpa hwsc hengine
    have hfreed : s.endAccess.Arbitrable :=
      hs.arbitrable_of_freed rfl rfl ((hs.workLegal.access.others ha).2.1 nofun)
    exact State.portLegal_of_settled h (hfreed.of_eq hwpa (congrArg Wsc.access hwsc) hengine)
  · cases h

theorem execAstbDrop_portLegal {s t : State} (hs : s.Consistent) (h : execAstbDrop s = .next t) : t.PortLegal := by
  unfold execAstbDrop at h
  split at h
  · cases h
  · exact State.portLegal_of_done h (hs.portLegal.of_berth rfl)

theorem execAstbAssertionDuringAccess_portLegal {s t : State} (hs : s.Consistent)
    (h : execAstbAssertionDuringAccess s = .next t) : t.PortLegal := by
  unfold execAstbAssertionDuringAccess at h
  split at h
  · split at h
    · cases h
    · exact State.portLegal_of_done h (hs.portLegal.of_berth rfl)
  · cases h

/-! ### The resets -/

/-- While RESET is asserted no requester wants the port, and it has no owner (R112). -/
theorem State.clearForReset_portLegal (s : State) : s.clearForReset.PortLegal := by
  refine (State.portLegal_iff _).mpr ⟨⟨nofun, iff_of_true rfl rfl, fun _ => rfl, fun _ => rfl, nofun⟩, fun _ r => ?_⟩
  cases r with
  | hostPath | engine => rfl
  | aux => exact Bool.and_false _

theorem execResetAssert_portLegal {s t : State} (h : execResetAssert s = .next t) : t.PortLegal := by
  unfold execResetAssert at h
  split at h
  · cases h
  · exact State.portLegal_of_done h (State.clearForReset_portLegal _)

theorem execResetRelease_portLegal {st : Straps} {s t : State} (h : execResetRelease st s = .next t) :
    t.PortLegal := by
  unfold execResetRelease at h
  split at h
  · exact State.portLegal_of_settled h ⟨⟨nofun, iff_of_true rfl rfl, fun _ => rfl, fun _ => rfl, nofun⟩,
      fun _ => EngineState.outOfAccess_of_inactive rfl⟩
  · cases h

/-! ### Register window writes and commands -/

theorem State.dataWrite_portLegal {s t : State} {c : IoCycle} {mine : Byte → Byte → Bool}
    {effect : Byte → Byte → State → State} (hs : s.Consistent) (h : s.dataWrite c mine effect = .next t)
    (heff : ∀ i b u, (effect i b u).berth = u.berth) : t.PortLegal := by
  obtain ⟨i, b, -, -, rfl⟩ := State.dataWrite_next s t c mine effect h
  exact hs.portLegal.of_berth (heff i b (s.openIo c))

theorem State.command_portLegal {s t : State} {c : IoCycle} {mine : Byte → Bool} {run : State → Reply}
    (hs : s.Consistent) (h : s.command c mine run = .next t) (hrun : ∀ u, (run u).state.berth = u.berth) :
    t.PortLegal :=
  State.dataWrite_portLegal hs h fun _ _ u => hrun u

theorem execIndexPortWrite_portLegal {c : IoCycle} {s t : State} (hs : s.Consistent)
    (h : execIndexPortWrite c s = .next t) : t.PortLegal := by
  unfold execIndexPortWrite at h
  split at h
  · cases h
  split at h
  · exact State.portLegal_of_done h (hs.portLegal.of_berth rfl)
  · cases h

theorem execRegisterWrite_portLegal {c : IoCycle} {s t : State} (hs : s.Consistent)
    (h : execRegisterWrite c s = .next t) : t.PortLegal := by
  refine State.dataWrite_portLegal hs h fun i b u => ?_
  split
  all_goals rfl

/-- A job that is to end with its line wants the port as before (R80). -/
theorem State.runAbortActive_berth (u : State) : u.runAbortActive.state.berth = u.berth := by
  unfold State.runAbortActive
  split
  · rename_i a ha
    have hwant : (EngineState.draining a).wantsWork = u.txe.engine.wantsWork := by rw [ha]; rfl
    exact congrArg (fun e => { u.berth with engine := e }) hwant
  all_goals rfl

/-- An engine that held a completion record wants no port, nor does it once it is idle (R79). -/
theorem State.runPopCompletion_berth (u : State) : u.runPopCompletion.state.berth = u.berth := by
  unfold State.runPopCompletion
  split
  · rfl
  split
  · rename_i q hq
    have hwant : EngineState.idle.wantsWork = u.txe.engine.wantsWork := by rw [hq]; rfl
    exact congrArg (fun e => { u.berth with engine := e }) hwant
  · rfl

/-- An access that ENGINE_RESET drops is its requester's still (R84). -/
theorem WorkAccess.drop_requester (a : WorkAccess) : a.drop.requester = a.requester := by
  cases a <;> rfl

theorem Wpa.Fits.drop {w : Wpa} {access : Option WorkAccess} (h : w.Fits access) :
    w.Fits (access.map WorkAccess.drop) := by
  refine ⟨fun a ha => ?_, h.guarantee, h.unowned, fun hn => h.busy fun he => hn (by rw [he]; rfl), h.idle⟩
  obtain ⟨b, hb, rfl⟩ := Option.map_eq_some_iff.mp ha
  rw [b.drop_requester]
  exact h.owner b hb

theorem execEngineReset_portLegal {c : IoCycle} {s t : State} (hs : s.Consistent)
    (h : execEngineReset c s = .next t) : t.PortLegal := by
  obtain ⟨code, -, -, rfl⟩ := State.command_next s t c _ _ h
  have hdiscarded : (s.openIo c).engineDiscarded.Arbitrable :=
    ⟨hs.fits.drop, fun _ => EngineState.outOfAccess_of_inactive rfl⟩
  have hrun : (s.openIo c).runEngineReset.state.PortLegal := hdiscarded.settle
  generalize (s.openIo c).runEngineReset = r at hrun
  exact hrun.of_berth rfl

/-! ### Every command -/

theorem exec_portLegal {i : Instr} {s t : State} (hs : s.Consistent) (h : exec i s = .next t) : t.PortLegal := by
  cases i with
  | hostMemoryCycleArrival c => exact execHostMemoryCycleArrival_portLegal hs h
  | unclaimedIoCycle dir c => exact execUnclaimedIoCycle_portLegal hs h
  | unclaimedCycleEnd => exact execUnclaimedCycleEnd_portLegal hs h
  | hostWaitTimeout => exact execHostWaitTimeout_portLegal hs h
  | hostBootReadComplete => exact execHostBootReadComplete_portLegal hs h
  | hostWorkReadComplete => exact execHostWorkReadComplete_portLegal hs h
  | unpostedWriteComplete => exact execUnpostedWriteComplete_portLegal hs h
  | drainComplete => exact execDrainComplete_portLegal hs h
  | activation => exact execActivation_portLegal hs h
  | engineBootReadComplete => exact execEngineBootReadComplete_portLegal hs h
  | lineWriteComplete => exact execLineWriteComplete_portLegal hs h
  | verifyReadComplete => exact execVerifyReadComplete_portLegal hs h
  | arbiterTick => exact State.portLegal_of_done h hs.tick_portLegal
  | guaranteeExpiry => exact execGuaranteeExpiry_portLegal hs h
  | idleExpiry => exact execIdleExpiry_portLegal hs h
  | areqAssert => exact execAreqAssert_portLegal hs h
  | areqDeassert => exact execAreqDeassert_portLegal hs h
  | auxCycleStart c => exact execAuxCycleStart_portLegal hs h
  | auxAccessComplete => exact execAuxAccessComplete_portLegal hs h
  | astbDrop => exact execAstbDrop_portLegal hs h
  | astbAssertionDuringAccess => exact execAstbAssertionDuringAccess_portLegal hs h
  | resetAssert => exact execResetAssert_portLegal h
  | resetRelease st => exact execResetRelease_portLegal h
  | indexPortWrite c => exact execIndexPortWrite_portLegal hs h
  | registerWrite c => exact execRegisterWrite_portLegal hs h
  | engineReset c => exact execEngineReset_portLegal hs h
  | abortActive c => exact State.command_portLegal hs h State.runAbortActive_berth
  | popCompletion c => exact State.command_portLegal hs h State.runPopCompletion_berth
  | stagingWrite c | postingEnableWrite c | hostWaitLimitWrite c | parityTerminationWrite c | parityCheckEnableWrite c
  | bootAccessTimeWrite c | guaranteeWrite c | idleWindowWrite c | interruptMaskWrite c =>
    dsimp only [exec, execStagingWrite, execPostingEnableWrite, execHostWaitLimitWrite, execParityTerminationWrite,
      execParityCheckEnableWrite, execBootAccessTimeWrite, execGuaranteeWrite, execIdleWindowWrite,
      execInterruptMaskWrite] at h
    exact State.dataWrite_portLegal hs h fun _ _ _ => rfl
  | lockRouting c | flushQueued c | monitorStart c | monitorStop c | snapshotMonitor c | clearOverflow c =>
    exact State.command_portLegal hs h fun _ => rfl
  | unknownCommand c => exact State.command_portLegal hs (show execUnknownCommand c s = .next t from h) fun _ => rfl
  | setWindow c | commitRoute c | loadRoute c | commitOverlay c | loadOverlay c | submitJob c | setAuxWindow c
  | popFault c | commitSelect c | loadSelect c | setPorts c =>
    -- in every branch the rule changes no field of the berth
    refine State.command_portLegal hs h fun u => ?_
    dsimp only [State.runSetWindow, State.runCommitRoute, State.runLoadRoute, State.runCommitOverlay,
      State.runLoadOverlay, State.runSubmitJob, State.runSetAuxWindow, State.runPopFault, State.runCommitSelect,
      State.runLoadSelect, State.runSetPorts]
    repeat' split
    all_goals rfl

/-- Settles O13: every command leaves the port settled, and a state without a command stays. -/
theorem stepKeepsPortLegal : Obligations.StepKeepsPortLegal := by
  intro s t hs h
  unfold step at h
  split at h
  · cases h
    exact hs.portLegal
  · rename_i c rest _
    exact exec_portLegal (s := { s with pending := rest }) hs h

end Sys2Proof.Machine
end

section
/-! PROOF. What no command touches: the queue, the Boot Store and, but for the release of RESET, the straps (O2); and the
canonical form of the stores, the parity bits and the masks (O7). -/

namespace Sys2Proof.Machine

/-! ### The queue, the Boot Store and the straps -/

/-- The queue, the Boot Store's contents and the sampled straps. -/
structure Ground where
  pending : List Instr
  boot    : List Host.Cell
  straps  : Straps

/-- The ground of a state. -/
def State.ground (s : State) : Ground := { pending := s.pending, boot := s.boot, straps := s.straps }

theorem State.SameOutside.ground {s t : State} (h : s.SameOutside t) : t.ground = s.ground := by
  obtain ⟨-, -, -, hstraps, -, -, hboot, -, -, -, hpending⟩ := h
  unfold State.ground
  rw [hstraps, hboot, hpending]

theorem State.settle_ground (s : State) : s.settle.ground = s.ground := s.settle_outside.ground

theorem State.SameButEngine.ground {s t : State} (h : s.SameButEngine t) : t.ground = s.ground := by
  obtain ⟨-, -, houtside⟩ := h
  exact houtside.ground

theorem ButWork.ground {s t : State} (h : ButWork s t) : t.ground = s.ground := by
  unfold ButWork at h
  rw [h]
  rfl

/-- The outputs are no part of the ground. -/
theorem State.ground_of_done {s t v : State} (e : v.done = .next t) (h : v.ground = s.ground) :
    t.ground = s.ground := by
  simp only [State.done, Host.Outcome.next.injEq] at e
  subst e
  exact h

theorem State.ground_of_settled {s t v : State} (e : v.settle.done = .next t) (h : v.ground = s.ground) :
    t.ground = s.ground :=
  State.ground_of_done e (v.settle_ground.trans h)

theorem State.bootNext_ground (s : State) : s.bootNext.ground = s.ground := by
  unfold State.bootNext
  repeat' split
  all_goals rfl

theorem State.offer_ground (s : State) (r : CompletionRecord) : (s.offer r).ground = s.ground := by
  unfold State.offer
  split
  all_goals rfl

theorem State.handover_ground (s : State) (o : Requester) (forfeit : Bool) :
    (s.handover o forfeit).ground = s.ground := by
  unfold State.handover
  repeat' split
  all_goals rfl

/-! ### Host cycles -/

theorem State.arriveRoute_ground (s : State) (c : MemoryCycle) (r : Route) : (s.arriveRoute c r).ground = s.ground := by
  have hrefused (kind : FaultKind) (b : Fin 64) (fa : FaultAction) (data : Option LaneData) :
      (s.endRefused kind (wordAddr c.ha) c.dir b fa data).ground = s.ground := by
    rw [State.endRefused_eq, State.handFault_unless]
    rfl
  have hwork (off : Offset) (b : Fin 64) (ov : Option (Fin 16)) : (s.arriveWork c off b ov).ground = s.ground :=
    State.settle_ground _
  cases r with
  | notClaimed => rfl
  | discard b fa => exact hrefused .discardedWrite b fa none
  | closed b fa => exact hrefused .closedAccess b fa _
  | bootRead off b =>
    show (s.arriveBootRead c off b).ground = s.ground
    unfold State.arriveBootRead
    split
    all_goals rfl
  | workRead off b ov => exact hwork off b ov
  | workWrite off b ov =>
    show State.ground (if s.hbi.postingEnable then s.arrivePosted c off b ov else s.arriveWork c off b ov) = s.ground
    split
    · unfold State.arrivePosted
      dsimp only
      split
      all_goals exact State.settle_ground _
    · exact hwork off b ov

theorem execHostMemoryCycleArrival_ground {c : MemoryCycle} {s t : State}
    (h : execHostMemoryCycleArrival c s = .next t) : t.ground = s.ground := by
  unfold execHostMemoryCycleArrival at h
  split at h
  · cases h
  split at h
  · cases h
  split at h
  · exact State.ground_of_done h rfl
  · exact State.ground_of_done h (State.arriveRoute_ground _ _ _)

theorem execUnclaimedIoCycle_ground {dir : Direction} {c : IoCycle} {s t : State}
    (h : execUnclaimedIoCycle dir c s = .next t) : t.ground = s.ground := by
  unfold execUnclaimedIoCycle at h
  split at h
  · cases h
  split at h
  · cases h
  split at h
  · exact State.ground_of_done h rfl
  split at h
  · cases dir with
    | read => exact State.ground_of_done h rfl
    | write => cases h
  · exact State.ground_of_done h rfl

theorem execUnclaimedCycleEnd_ground {s t : State} (h : execUnclaimedCycleEnd s = .next t) : t.ground = s.ground := by
  unfold execUnclaimedCycleEnd at h
  split at h
  · cases h
  · exact State.ground_of_done h rfl

theorem execHostWaitTimeout_ground {s t : State} (h : execHostWaitTimeout s = .next t) : t.ground = s.ground := by
  unfold execHostWaitTimeout at h
  split at h
  · cases h
  split at h
  · cases h
  split at h
  · cases h
  · exact State.ground_of_settled h rfl

theorem execHostBootReadComplete_ground {s t : State} (h : execHostBootReadComplete s = .next t) :
    t.ground = s.ground := by
  unfold execHostBootReadComplete at h
  split at h
  · split at h
    · exact State.ground_of_done h (State.bootNext_ground _)
    · cases h
  · cases h

theorem execHostWorkReadComplete_ground {s t : State} (h : execHostWorkReadComplete s = .next t) :
    t.ground = s.ground := by
  unfold execHostWorkReadComplete at h
  split at h
  · dsimp only at h
    rw [State.handFault_unless] at h
    exact State.ground_of_settled h rfl
  · cases h

theorem execUnpostedWriteComplete_ground {s t : State} (h : execUnpostedWriteComplete s = .next t) :
    t.ground = s.ground := by
  unfold execUnpostedWriteComplete at h
  split at h
  · rename_i c _ _
    have hbut : ButWork s.endAccess (s.endAccess.writeLanes c.offset c.lanes c.data) := State.writeWork_butWork ..
    exact State.ground_of_settled h hbut.ground
  · cases h

theorem State.afterDrain_ground (s : State) : s.afterDrain.ground = s.ground := by
  unfold State.afterDrain
  repeat' split
  all_goals rfl

theorem execDrainComplete_ground {s t : State} (h : execDrainComplete s = .next t) : t.ground = s.ground := by
  unfold execDrainComplete at h
  split at h
  · rename_i e _ _ _
    have hbut : ButWork s.endAccess (s.endAccess.writeLanes e.offset e.lanes e.data) := State.writeWork_butWork ..
    exact State.ground_of_settled h ((State.afterDrain_ground _).trans hbut.ground)
  · cases h

/-! ### The engine -/

theorem execActivation_ground {s t : State} (h : execActivation s = .next t) : t.ground = s.ground := by
  unfold execActivation at h
  split at h
  · dsimp only at h
    split at h
    · rw [State.retire_unapplied _ _ _ _ (actionResult_failed _ _)] at h
      exact State.ground_of_done h (State.offer_ground _ _)
    · exact State.ground_of_settled h (State.beginLine_sameButEngine _ _).ground
  · cases h

theorem execEngineBootReadComplete_ground {s t : State} (h : execEngineBootReadComplete s = .next t) :
    t.ground = s.ground := by
  unfold execEngineBootReadComplete at h
  split at h
  · split at h
    · split at h
      all_goals exact State.ground_of_settled h (State.bootNext_ground _)
    · cases h
  · cases h

theorem execLineWriteComplete_ground {s t : State} (h : execLineWriteComplete s = .next t) : t.ground = s.ground := by
  unfold execLineWriteComplete at h
  split at h
  · rename_i off data mask _ _
    have hbut : ButWork s.endAccess (s.endAccess.writeLine off mask data) := State.writeWork_butWork ..
    dsimp only at h
    split at h
    · exact State.ground_of_settled h hbut.ground
    · exact State.ground_of_settled h ((State.completeLine_sameButEngine _ _).ground.trans hbut.ground)
  · cases h

theorem execVerifyReadComplete_ground {s t : State} (h : execVerifyReadComplete s = .next t) : t.ground = s.ground := by
  unfold execVerifyReadComplete at h
  split at h
  · split at h
    · exact State.ground_of_settled h rfl
    split at h
    · split at h
      · split at h
        all_goals exact State.ground_of_settled h (State.completeLine_sameButEngine _ _).ground
      · cases h
    · cases h
  · cases h

/-! ### The arbiter and the auxiliary port -/

theorem State.tick_ground (s : State) : s.tick.ground = s.ground := by
  have hticked : s.ticked.ground = s.ground := by
    rw [State.ticked_eq]
    rfl
  rcases s.tick_cases with ⟨o, -, -, heq⟩ | ⟨-, heq⟩
  · rw [heq, State.settle_ground, State.handover_ground, hticked]
  · rw [heq, State.settle_ground, hticked]

theorem execGuaranteeExpiry_ground {s t : State} (h : execGuaranteeExpiry s = .next t) : t.ground = s.ground := by
  unfold execGuaranteeExpiry at h
  split at h
  · exact State.ground_of_done h s.tick_ground
  · cases h

theorem execIdleExpiry_ground {s t : State} (h : execIdleExpiry s = .next t) : t.ground = s.ground := by
  unfold execIdleExpiry at h
  split at h
  · exact State.ground_of_done h s.tick_ground
  · cases h

theorem execAreqAssert_ground {s t : State} (h : execAreqAssert s = .next t) : t.ground = s.ground := by
  unfold execAreqAssert at h
  split at h
  · cases h
  dsimp only at h
  split at h
  · exact State.ground_of_done h rfl
  · rw [State.resumeAux_eq] at h
    exact State.ground_of_settled h rfl

theorem execAreqDeassert_ground {s t : State} (h : execAreqDeassert s = .next t) : t.ground = s.ground := by
  unfold execAreqDeassert at h
  split at h
  · cases h
  dsimp only at h
  split at h
  · exact State.ground_of_done h rfl
  · exact State.ground_of_settled h rfl

theorem execAuxCycleStart_ground {c : AuxRequest} {s t : State} (h : execAuxCycleStart c s = .next t) :
    t.ground = s.ground := by
  unfold execAuxCycleStart at h
  split at h
  · cases h
  split at h
  · exact State.ground_of_done h rfl
  split at h
  · dsimp only at h
    repeat' split at h
    all_goals exact State.ground_of_done h rfl
  · cases h

theorem State.auxEffect_ground (s : State) (c : AuxCycle) (check : Bool) :
    (s.auxEffect c check).1.ground = s.ground := by
  unfold State.auxEffect
  split
  · have hbut : ButWork s (s.writeLanes c.offset c.lanes c.data) := State.writeWork_butWork ..
    exact hbut.ground
  · dsimp only
    rw [State.handFault_unless]
    rfl

theorem execAuxAccessComplete_ground {s t : State} (h : execAuxAccessComplete s = .next t) : t.ground = s.ground := by
  unfold execAuxAccessComplete at h
  split at h
  · rename_i check c _ _
    have hkept : (s.endAccess.auxEffect c check).1.ground = s.ground := s.endAccess.auxEffect_ground c check
    exact State.ground_of_settled h hkept
  · cases h

theorem execAstbDrop_ground {s t : State} (h : execAstbDrop s = .next t) : t.ground = s.ground := by
  unfold execAstbDrop at h
  split at h
  · cases h
  · exact State.ground_of_done h rfl

theorem execAstbAssertionDuringAccess_ground {s t : State} (h : execAstbAssertionDuringAccess s = .next t) :
    t.ground = s.ground := by
  unfold execAstbAssertionDuringAccess at h
  split at h
  · split at h
    · cases h
    · exact State.ground_of_done h rfl
  · cases h

/-! ### The resets -/

theorem execResetAssert_ground {s t : State} (h : execResetAssert s = .next t) : t.ground = s.ground := by
  unfold execResetAssert at h
  split at h
  · cases h
  · exact State.ground_of_done h s.abandonAccess_butWork.ground

/-- The release of RESET samples the straps, and leaves the rest of the ground (R14). -/
theorem exec_resetRelease_ground {st : Straps} {s t : State} (h : exec (.resetRelease st) s = .next t) :
    t.ground = { s.ground with straps := st } := by
  rw [exec_resetRelease_next h]
  rfl

/-! ### Register window writes and commands -/

theorem State.dataWrite_ground {s t : State} {c : IoCycle} {mine : Byte → Byte → Bool}
    {effect : Byte → Byte → State → State} (h : s.dataWrite c mine effect = .next t)
    (heff : ∀ i b u, (effect i b u).ground = u.ground) : t.ground = s.ground := by
  obtain ⟨i, b, -, -, rfl⟩ := State.dataWrite_next s t c mine effect h
  exact heff i b (s.openIo c)

theorem State.command_ground {s t : State} {c : IoCycle} {mine : Byte → Bool} {run : State → Reply}
    (h : s.command c mine run = .next t) (hrun : ∀ u, (run u).state.ground = u.ground) : t.ground = s.ground :=
  State.dataWrite_ground h fun _ _ u => hrun u

theorem execIndexPortWrite_ground {c : IoCycle} {s t : State} (h : execIndexPortWrite c s = .next t) :
    t.ground = s.ground := by
  unfold execIndexPortWrite at h
  split at h
  · cases h
  split at h
  · exact State.ground_of_done h rfl
  · cases h

theorem execRegisterWrite_ground {c : IoCycle} {s t : State} (h : execRegisterWrite c s = .next t) :
    t.ground = s.ground := by
  refine State.dataWrite_ground h fun i b u => ?_
  split
  all_goals rfl

/-! ### Every command -/

/-- No command but the release of RESET changes the queue, the Boot Store or the straps. -/
theorem exec_ground {i : Instr} {s t : State} (hi : ∀ st, i ≠ .resetRelease st) (h : exec i s = .next t) :
    t.ground = s.ground := by
  cases i with
  | resetRelease st => exact absurd rfl (hi st)
  | hostMemoryCycleArrival c => exact execHostMemoryCycleArrival_ground h
  | unclaimedIoCycle dir c => exact execUnclaimedIoCycle_ground h
  | unclaimedCycleEnd => exact execUnclaimedCycleEnd_ground h
  | hostWaitTimeout => exact execHostWaitTimeout_ground h
  | hostBootReadComplete => exact execHostBootReadComplete_ground h
  | hostWorkReadComplete => exact execHostWorkReadComplete_ground h
  | unpostedWriteComplete => exact execUnpostedWriteComplete_ground h
  | drainComplete => exact execDrainComplete_ground h
  | activation => exact execActivation_ground h
  | engineBootReadComplete => exact execEngineBootReadComplete_ground h
  | lineWriteComplete => exact execLineWriteComplete_ground h
  | verifyReadComplete => exact execVerifyReadComplete_ground h
  | arbiterTick => exact State.ground_of_done h s.tick_ground
  | guaranteeExpiry => exact execGuaranteeExpiry_ground h
  | idleExpiry => exact execIdleExpiry_ground h
  | areqAssert => exact execAreqAssert_ground h
  | areqDeassert => exact execAreqDeassert_ground h
  | auxCycleStart c => exact execAuxCycleStart_ground h
  | auxAccessComplete => exact execAuxAccessComplete_ground h
  | astbDrop => exact execAstbDrop_ground h
  | astbAssertionDuringAccess => exact execAstbAssertionDuringAccess_ground h
  | resetAssert => exact execResetAssert_ground h
  | indexPortWrite c => exact execIndexPortWrite_ground h
  | registerWrite c => exact execRegisterWrite_ground h
  | engineReset c => exact State.command_ground h fun _ => State.settle_ground _
  | stagingWrite c | postingEnableWrite c | hostWaitLimitWrite c | parityTerminationWrite c | parityCheckEnableWrite c
  | bootAccessTimeWrite c | guaranteeWrite c | idleWindowWrite c | interruptMaskWrite c =>
    dsimp only [exec, execStagingWrite, execPostingEnableWrite, execHostWaitLimitWrite, execParityTerminationWrite,
      execParityCheckEnableWrite, execBootAccessTimeWrite, execGuaranteeWrite, execIdleWindowWrite,
      execInterruptMaskWrite] at h
    exact State.dataWrite_ground h fun _ _ _ => rfl
  | lockRouting c | flushQueued c | monitorStart c | monitorStop c | snapshotMonitor c | clearOverflow c =>
    exact State.command_ground h fun _ => rfl
  | unknownCommand c => exact State.command_ground (show execUnknownCommand c s = .next t from h) fun _ => rfl
  | setWindow c | commitRoute c | loadRoute c | commitOverlay c | loadOverlay c | submitJob c | abortActive c
  | setAuxWindow c | popFault c | popCompletion c | commitSelect c | loadSelect c | setPorts c =>
    -- in every branch the rule changes its own block alone
    refine State.command_ground h fun u => ?_
    dsimp only [State.runSetWindow, State.runCommitRoute, State.runLoadRoute, State.runCommitOverlay,
      State.runLoadOverlay, State.runSubmitJob, State.runAbortActive, State.runSetAuxWindow, State.runPopFault,
      State.runPopCompletion, State.runCommitSelect, State.runLoadSelect, State.runSetPorts]
    repeat' split
    all_goals rfl

/-- Settles O2: the release of RESET takes its straps, and no other command changes any of the three. -/
theorem execLeavesQueueBootStoreAndStraps : Obligations.ExecLeavesQueueBootStoreAndStraps := by
  intro i s t h
  by_cases hi : ∃ st, i = .resetRelease st
  · obtain ⟨st, rfl⟩ := hi
    have hground := exec_resetRelease_ground h
    exact ⟨congrArg Ground.pending hground, congrArg Ground.boot hground, congrArg Ground.straps hground⟩
  · have hnot : ∀ st, i ≠ .resetRelease st := fun st e => hi ⟨st, e⟩
    have hground := exec_ground hnot h
    refine ⟨congrArg Ground.pending hground, congrArg Ground.boot hground, ?_⟩
    have hstraps : t.straps = s.straps := congrArg Ground.straps hground
    split
    · exact absurd rfl (hnot _)
    · exact hstraps

/-! ### The Work Store's bytes and parity bits -/

/-- The Work Store's bytes and parity bits stand in their canonical form. -/
def State.WorkCanonical (s : State) : Prop := Memory.wf s.work = true ∧ ParityBits.wf s.workParity = true

theorem State.SameStore.workCanonical {s v : State} (h : s.SameStore v) (hs : s.WorkCanonical) : v.WorkCanonical := by
  obtain ⟨hwork, hparity⟩ := h
  unfold State.WorkCanonical
  rw [hwork, hparity]
  exact hs

theorem State.WorkCanonical.settle {s : State} (h : s.WorkCanonical) : s.settle.WorkCanonical :=
  s.settle_outside.sameStore.workCanonical h

theorem State.WorkCanonical.writeWork {s : State} (h : s.WorkCanonical) (off : Nat) (sel : Nat → Bool)
    (dat : Nat → Byte) (n : Nat) : (s.writeWork off sel dat n).WorkCanonical :=
  State.writeWork_wf off sel dat n s h.1 h.2

theorem State.afterDrain_sameStore (s : State) : s.SameStore s.afterDrain := by
  unfold State.afterDrain
  repeat' split
  all_goals exact ⟨rfl, rfl⟩

/-- An abandoned write leaves the canonical form: it writes at most the bytes that landed (R55). -/
theorem State.WorkCanonical.abandonAccess {s : State} (h : s.WorkCanonical) : s.abandonAccess.WorkCanonical := by
  unfold State.abandonAccess
  split
  · split
    · exact h.writeWork ..
    · exact h
  · split
    · exact h.writeWork ..
    · exact h
  · exact h.writeWork ..
  · split
    · split
      · exact h.writeWork ..
      · exact h
    · exact h
  all_goals exact h

/-- The outputs are no part of the Work Store. -/
theorem State.workCanonical_of_done {t v : State} (e : v.done = .next t) (h : v.WorkCanonical) : t.WorkCanonical := by
  simp only [State.done, Host.Outcome.next.injEq] at e
  subst e
  exact h

theorem execUnpostedWriteComplete_workCanonical {s t : State} (h : execUnpostedWriteComplete s = .next t)
    (hs : s.endAccess.WorkCanonical) : t.WorkCanonical := by
  unfold execUnpostedWriteComplete at h
  split at h
  · exact State.workCanonical_of_done h (State.WorkCanonical.settle (hs.writeWork ..))
  · cases h

theorem execDrainComplete_workCanonical {s t : State} (h : execDrainComplete s = .next t)
    (hs : s.endAccess.WorkCanonical) : t.WorkCanonical := by
  unfold execDrainComplete at h
  split at h
  · exact State.workCanonical_of_done h
      (State.WorkCanonical.settle ((State.afterDrain_sameStore _).workCanonical (hs.writeWork ..)))
  · cases h

theorem execLineWriteComplete_workCanonical {s t : State} (h : execLineWriteComplete s = .next t)
    (hs : s.endAccess.WorkCanonical) : t.WorkCanonical := by
  unfold execLineWriteComplete at h
  split at h
  · rename_i off data mask _ _
    have hwritten : (s.endAccess.writeLine off mask data).WorkCanonical := hs.writeWork ..
    dsimp only at h
    split at h
    · exact State.workCanonical_of_done h hwritten.settle
    · have hcompleted := fun r => (State.completeLine_sameButEngine _ r).sameStore.workCanonical hwritten
      exact State.workCanonical_of_done h (hcompleted _).settle
  · cases h

theorem State.WorkCanonical.auxEffect {s : State} (h : s.WorkCanonical) (c : AuxCycle) (check : Bool) :
    (s.auxEffect c check).1.WorkCanonical := by
  unfold State.auxEffect
  split
  · exact h.writeWork ..
  · dsimp only
    rw [State.handFault_unless]
    exact h

theorem execAuxAccessComplete_workCanonical {s t : State} (h : execAuxAccessComplete s = .next t)
    (hs : s.endAccess.WorkCanonical) : t.WorkCanonical := by
  unfold execAuxAccessComplete at h
  split at h
  · rename_i check c _ _
    exact State.workCanonical_of_done h (State.WorkCanonical.settle (hs.auxEffect c check))
  · cases h

theorem execResetAssert_workCanonical {s t : State} (h : execResetAssert s = .next t) (hs : s.WorkCanonical) :
    t.WorkCanonical := by
  unfold execResetAssert at h
  split at h
  · cases h
  · exact State.workCanonical_of_done h hs.abandonAccess

/-- The commands that write the Work Store keep its canonical form. -/
theorem exec_workCanonical_of_endsWrite {i : Instr} {s t : State} (hi : endsWrite i = true) (h : exec i s = .next t)
    (hs : s.WorkCanonical) : t.WorkCanonical := by
  have hended : s.endAccess.WorkCanonical := hs
  cases i with
  | unpostedWriteComplete => exact execUnpostedWriteComplete_workCanonical h hended
  | drainComplete => exact execDrainComplete_workCanonical h hended
  | lineWriteComplete => exact execLineWriteComplete_workCanonical h hended
  | auxAccessComplete => exact execAuxAccessComplete_workCanonical h hended
  | resetAssert => exact execResetAssert_workCanonical h hs
  | _ => cases hi

theorem exec_workCanonical {i : Instr} {s t : State} (h : exec i s = .next t) (hs : s.WorkCanonical) :
    t.WorkCanonical := by
  cases hi : endsWrite i with
  | true => exact exec_workCanonical_of_endsWrite hi h hs
  | false =>
    obtain ⟨v, ⟨hstore, -⟩, rfl⟩ := exec_drivenFrom h
    exact (hstore hi).workCanonical hs

/-! ### The masks of the Written-Byte Map -/

/-- The masks of an armed map stand in their canonical form. -/
def State.MasksCanonical (s : State) : Prop := ∀ m ∈ s.txe.map, LineMasks.wf m.masks = true

theorem State.MasksCanonical.of_map {s t : State} (h : s.MasksCanonical) (e : t.txe.map = s.txe.map) :
    t.MasksCanonical := by
  unfold State.MasksCanonical
  rw [e]
  exact h

theorem State.masksCanonical_of_disarmed {s : State} (e : s.txe.map = none) : s.MasksCanonical := by
  intro m hm
  rw [e] at hm
  cases hm

theorem State.MasksCanonical.beginLine {s : State} (h : s.MasksCanonical) (a : ActiveJob) :
    (s.beginLine a).MasksCanonical := by
  obtain ⟨st, htxe, -⟩ := s.beginLine_engine a
  exact h.of_map (by rw [htxe])

theorem State.jobEnd_masksCanonical (s : State) (a : ActiveJob) (o : JobOutcome) (q : Reason) :
    (s.jobEnd a o q).MasksCanonical :=
  State.masksCanonical_of_disarmed (s.jobEnd_engine a o q).2.1

/-- The scan of the buffer keeps the canonical form of the masks (R89). -/
theorem ByteMap.scan_wf {m : ByteMap} (h : LineMasks.wf m.masks = true) (buffer : List PostEntry) :
    LineMasks.wf (m.scan buffer).masks = true := by
  unfold ByteMap.scan
  induction buffer generalizing m with
  | nil => exact h
  | cons e rest ih => exact ih ((m.mark_keeps e.offset e.lanes).2.2 h)

/-- Every move keeps the masks canonical: a mark writes one mask, an activation arms an empty map and scans the buffer,
and a job end disarms it (R87 to R89). -/
theorem State.MasksCanonical.move {s t : State} (h : s.MasksCanonical) (m : s.Move t) : t.MasksCanonical := by
  cases m with
  | quiet _ hq => exact h.of_map (congrArg (fun x : Setup => x.txe.map) hq)
  | mark off lanes =>
    intro m hm
    obtain ⟨n, hn, rfl⟩ := Option.map_eq_some_iff.mp hm
    exact (n.mark_keeps off lanes).2.2 (h n hn)
  | line r => exact State.completeLine_keeps State.MasksCanonical s r h h.beginLine s.jobEnd_masksCanonical
  | activate j rest _ _ =>
    refine State.MasksCanonical.beginLine (fun m hm => ?_) _
    dsimp only at hm
    split at hm
    · exact h m hm
    · obtain rfl := Option.some.inj hm
      exact ByteMap.scan_wf rfl _
  | stop => exact State.masksCanonical_of_disarmed rfl
  | stage | queue | engine | hit | clearHits | window | route | overlay | lock | auxWindow | select | ports
  | parityCheck => exact h.of_map rfl

/-- Settles O7: no command changes the Boot Store, every write of the Work Store keeps the canonical form, and every move
that of the masks. -/
theorem stepKeepsStoresCanonical : Obligations.StepKeepsStoresCanonical := by
  intro s t hs hstep
  have ⟨hboot, hwork, hparity, hmasks⟩ := hs
  have hmasks' : t.MasksCanonical :=
    step_keeps (P := State.MasksCanonical) (fun _ _ => State.MasksCanonical.move)
      (fun _ _ => State.masksCanonical_of_disarmed rfl) hmasks hstep
  have h := hstep
  unfold step at h
  split at h
  · cases h
    exact hs
  · rename_i c rest _
    obtain ⟨-, hsame, -⟩ := execLeavesQueueBootStoreAndStraps _ _ _ h
    obtain ⟨hwork', hparity'⟩ := exec_workCanonical h ⟨hwork, hparity⟩
    exact ⟨by rw [hsame]; exact hboot, hwork', hparity', hmasks'⟩

end Sys2Proof.Machine
end

section
/-! PROOF. The queue's front (O1), when a command completes and how it stops otherwise (O4), and the state after reset
(O6). -/

namespace Sys2Proof.Machine

/-! ### The front of the queue -/

/-- Settles O1: the front of the queue is what `step` takes. -/
theorem stepTakesFrontOfQueue : Obligations.StepTakesFrontOfQueue := by
  intro c rest s h
  unfold step
  rw [h]

/-! ### What a command answers, due or not -/

/-- The answer to a command: a next state where it is due, a refusal where it is not. -/
inductive State.Verdict (s : State) (i : Instr) (r : Refusal) : Host.Outcome State Fault Refusal → Prop
  | next (t : State) (h : s.Due i) : Verdict s i r (.next t)
  | refused (h : ¬ s.Due i) : Verdict s i r (.refused r)

theorem State.Verdict.next_of_due {s : State} {i : Instr} {r : Refusal} {x : Host.Outcome State Fault Refusal}
    (h : s.Verdict i r x) (hd : s.Due i) : ∃ t, x = .next t := by
  cases h with
  | next t _ => exact ⟨t, rfl⟩
  | refused hn => exact absurd hd hn

theorem State.Verdict.refused_of_not_due {s : State} {i : Instr} {r : Refusal}
    {x : Host.Outcome State Fault Refusal} (h : s.Verdict i r x) (hd : ¬ s.Due i) : x = .refused r := by
  cases h with
  | next t h => exact absurd h hd
  | refused _ => rfl

/-! ### Events that are no host cycle -/

theorem execUnclaimedCycleEnd_verdict (s : State) :
    s.Verdict .unclaimedCycleEnd .notDue (execUnclaimedCycleEnd s) := by
  unfold execUnclaimedCycleEnd
  split
  · rename_i hc
    exact .refused fun hn : s.hbi.cycle = none => by simp [hn] at hc
  · rename_i hc
    exact .next _ (show s.hbi.cycle = none by simpa using hc)

theorem execHostWaitTimeout_verdict (s : State) : s.Verdict .hostWaitTimeout .notDue (execHostWaitTimeout s) := by
  unfold execHostWaitTimeout
  split
  · rename_i hc
    exact .refused fun ⟨c, h, _⟩ => by simp [hc] at h
  rename_i c hc
  have hsame {d : HostCycle} (hd : s.hbi.cycle = some d) : d = c := Option.some.inj (hd.symm.trans hc)
  split
  · rename_i hw
    refine .refused fun ⟨d, hd, hwaits, _⟩ => ?_
    obtain rfl := hsame hd
    simp [HostStage.waits, hw] at hwaits
  rename_i w hw
  split
  · rename_i ht
    exact .refused fun ⟨_, _, _, h⟩ => by simp [ht] at h
  · rename_i ht
    exact .next _ ⟨c, hc, by simp [HostStage.waits, hw], by simpa using ht⟩

theorem execHostBootReadComplete_verdict (s : State) :
    s.Verdict .hostBootReadComplete .notDue (execHostBootReadComplete s) := by
  unfold execHostBootReadComplete
  split
  · rename_i b c hb hc
    split
    · rename_i hu
      exact .next _ ⟨⟨b, hb, hu⟩, by simp [hc]⟩
    · rename_i hu
      refine .refused fun ⟨⟨x, hx, hxu⟩, _⟩ => hu ?_
      obtain rfl : x = b := Option.some.inj (hx.symm.trans hb)
      exact hxu
  · rename_i hnot
    refine .refused fun ⟨⟨b, hb, _⟩, hn⟩ => ?_
    obtain ⟨c, hc⟩ := Option.ne_none_iff_exists'.mp hn
    exact hnot b c hb hc

theorem execHostWorkReadComplete_verdict (s : State) :
    s.Verdict .hostWorkReadComplete .notDue (execHostWorkReadComplete s) := by
  unfold execHostWorkReadComplete
  split
  · rename_i check c ha hc
    exact .next _ ⟨⟨check, ha⟩, by simp [hc]⟩
  · rename_i hnot
    refine .refused fun ⟨⟨check, ha⟩, hn⟩ => ?_
    obtain ⟨c, hc⟩ := Option.ne_none_iff_exists'.mp hn
    exact hnot check c ha hc

theorem execUnpostedWriteComplete_verdict (s : State) :
    s.Verdict .unpostedWriteComplete .notDue (execUnpostedWriteComplete s) := by
  unfold execUnpostedWriteComplete
  split
  · rename_i c ha hc
    exact .next _ ⟨ha, by simp [hc]⟩
  · rename_i hnot
    refine .refused fun ⟨ha, hn⟩ => ?_
    obtain ⟨c, hc⟩ := Option.ne_none_iff_exists'.mp hn
    exact hnot c ha hc

theorem execDrainComplete_verdict (s : State) : s.Verdict .drainComplete .notDue (execDrainComplete s) := by
  unfold execDrainComplete
  split
  · rename_i e rest ha hb
    exact .next _ ⟨ha, by simp [hb]⟩
  · rename_i hnot
    refine .refused fun ⟨ha, hn⟩ => ?_
    obtain ⟨e, rest, hb⟩ := List.exists_cons_of_ne_nil hn
    exact hnot e rest ha hb

theorem execActivation_verdict (s : State) : s.Verdict .activation .notDue (execActivation s) := by
  unfold execActivation
  split
  · rename_i j rest hidle hq
    have hdue : s.Due .activation := ⟨hidle, by simp [hq]⟩
    dsimp only
    split
    · exact .next _ hdue
    · exact .next _ hdue
  · rename_i hnot
    refine .refused fun ⟨hidle, hn⟩ => ?_
    obtain ⟨j, rest, hq⟩ := List.exists_cons_of_ne_nil hn
    exact hnot j rest hidle hq

theorem execEngineBootReadComplete_verdict (s : State) :
    s.Verdict .engineBootReadComplete .notDue (execEngineBootReadComplete s) := by
  unfold execEngineBootReadComplete
  split
  · rename_i b hb
    split
    · rename_i hu
      have hdue : s.Due .engineBootReadComplete := ⟨b, hb, hu⟩
      split
      · exact .next _ hdue
      · exact .next _ hdue
    · rename_i hu
      refine .refused fun ⟨x, hx, hxu⟩ => hu ?_
      obtain rfl : x = b := Option.some.inj (hx.symm.trans hb)
      exact hxu
  · rename_i hb
    exact .refused fun ⟨x, hx, _⟩ => by simp [hb] at hx

theorem execLineWriteComplete_verdict (s : State) :
    s.Verdict .lineWriteComplete .notDue (execLineWriteComplete s) := by
  unfold execLineWriteComplete
  split
  · rename_i off data mask dropped ha
    have hdue : s.Due .lineWriteComplete := ⟨off, data, mask, dropped, ha⟩
    dsimp only
    split
    · exact .next _ hdue
    · exact .next _ hdue
  · rename_i hnot
    exact .refused fun ⟨off, data, mask, dropped, ha⟩ => hnot off data mask dropped ha

/-- The end of a line's read is due where the access was dropped or its line is in it (R71, R84). -/
theorem State.due_verifyReadComplete_iff {s : State} {off : Offset} {check dropped : Bool}
    (ha : s.wsc.access = some (.lineRead off check dropped)) :
    s.Due .verifyReadComplete ↔ dropped = true ∨ ∃ a d, s.txe.engine.active = some a ∧ a.stage = .workRead d := by
  simp only [State.Due, ha, Option.some.injEq, WorkAccess.lineRead.injEq]
  cases dropped <;> simp

theorem execVerifyReadComplete_verdict (s : State) :
    s.Verdict .verifyReadComplete .notDue (execVerifyReadComplete s) := by
  unfold execVerifyReadComplete
  split
  · rename_i off check dropped ha
    have hdue := State.due_verifyReadComplete_iff ha
    split
    · rename_i hd
      exact .next _ (hdue.mpr (.inl hd))
    rename_i hd
    split
    · rename_i a hactive
      split
      · rename_i bootData hs
        have hline : s.Due .verifyReadComplete := hdue.mpr (.inr ⟨a, bootData, hactive, hs⟩)
        split
        · exact .next _ hline
        · exact .next _ hline
      · rename_i hs
        refine .refused fun h => ?_
        obtain hdropped | ⟨b, d, hb, hbs⟩ := hdue.mp h
        · exact hd hdropped
        · obtain rfl : b = a := Option.some.inj (hb.symm.trans hactive)
          exact hs d hbs
    · rename_i hactive
      refine .refused fun h => ?_
      obtain hdropped | ⟨b, d, hb, -⟩ := hdue.mp h
      · exact hd hdropped
      · simp [hactive] at hb
  · rename_i hnot
    exact .refused fun h => h.elim (fun ⟨off, check, ha⟩ => hnot off check true ha)
      fun ⟨⟨off, check, ha⟩, _⟩ => hnot off check false ha

/-- An event whose guard is the one it is due under. -/
theorem State.verdict_of_guard {s : State} {i : Instr} {r : Refusal} {p : Prop} [Decidable p] {v : State}
    (h : s.Due i ↔ p) : s.Verdict i r (if p then v.done else .refused r) := by
  split
  · exact .next _ (h.mpr ‹_›)
  · exact .refused (h.not.mpr ‹_›)

/-- An event that is refused under a guard. -/
theorem State.verdict_unless {s : State} {i : Instr} {r : Refusal} {p : Prop} [Decidable p] {v : State}
    (h : s.Due i ↔ ¬ p) : s.Verdict i r (if p then .refused r else v.done) := by
  split
  · exact .refused fun hd => h.mp hd ‹_›
  · exact .next _ (h.mpr ‹_›)

theorem execAreqAssert_verdict (s : State) : s.Verdict .areqAssert .notDue (execAreqAssert s) := by
  have hdue : s.Due .areqAssert ↔ ¬ s.amp.areq = true := by simp [State.Due]
  unfold execAreqAssert
  split
  · exact .refused fun h => hdue.mp h ‹_›
  · dsimp only
    split
    all_goals exact .next _ (hdue.mpr ‹_›)

theorem execAreqDeassert_verdict (s : State) : s.Verdict .areqDeassert .notDue (execAreqDeassert s) := by
  have hdue : s.Due .areqDeassert ↔ ¬ s.amp.areq = false := by simp [State.Due]
  unfold execAreqDeassert
  split
  · exact .refused fun h => hdue.mp h ‹_›
  · dsimp only
    split
    all_goals exact .next _ (hdue.mpr ‹_›)

theorem execAuxCycleStart_verdict (c : AuxRequest) (s : State) :
    s.Verdict (.auxCycleStart c) .notDue (execAuxCycleStart c s) := by
  unfold execAuxCycleStart
  split
  · rename_i hb
    exact .refused fun ⟨h, _⟩ => by simp [hb] at h
  rename_i hb
  rw [Bool.not_eq_true] at hb
  split
  · rename_i hr
    exact .next _ ⟨hb, .inl hr⟩
  rename_i hr
  split
  · rename_i hc
    have hdue : s.Due (.auxCycleStart c) := ⟨hb, .inr hc⟩
    dsimp only
    repeat' split
    all_goals exact .next _ hdue
  · rename_i hnot
    exact .refused fun ⟨_, h⟩ => h.elim (fun hin => hr hin) fun hc => hnot hc

theorem execAuxAccessComplete_verdict (s : State) :
    s.Verdict .auxAccessComplete .notDue (execAuxAccessComplete s) := by
  unfold execAuxAccessComplete
  split
  · rename_i check c ha hc
    exact .next _ ⟨⟨check, ha⟩, c, hc⟩
  · rename_i hnot
    exact .refused fun ⟨⟨check, ha⟩, c, hc⟩ => hnot check c ha hc

theorem execAstbAssertionDuringAccess_verdict (s : State) :
    s.Verdict .astbAssertionDuringAccess .notDue (execAstbAssertionDuringAccess s) := by
  unfold execAstbAssertionDuringAccess
  split
  · rename_i c hc
    split
    · rename_i hb
      exact .refused fun ⟨h, _⟩ => by simp [hb] at h
    · rename_i hb
      exact .next _ ⟨by simpa using hb, c, hc⟩
  · rename_i hnot
    exact .refused fun ⟨_, c, hc⟩ => hnot c hc

/-- An event that is no host cycle completes where it is due, and is refused `notDue` otherwise. -/
theorem exec_verdict_event {i : Instr} (s : State) (hi : i.hostLanes = none) : s.Verdict i .notDue (exec i s) := by
  cases i with
  | unclaimedCycleEnd => exact execUnclaimedCycleEnd_verdict s
  | hostWaitTimeout => exact execHostWaitTimeout_verdict s
  | hostBootReadComplete => exact execHostBootReadComplete_verdict s
  | hostWorkReadComplete => exact execHostWorkReadComplete_verdict s
  | unpostedWriteComplete => exact execUnpostedWriteComplete_verdict s
  | drainComplete => exact execDrainComplete_verdict s
  | activation => exact execActivation_verdict s
  | engineBootReadComplete => exact execEngineBootReadComplete_verdict s
  | lineWriteComplete => exact execLineWriteComplete_verdict s
  | verifyReadComplete => exact execVerifyReadComplete_verdict s
  | arbiterTick => exact .next _ trivial
  | guaranteeExpiry | idleExpiry => exact State.verdict_of_guard Iff.rfl
  | areqAssert => exact execAreqAssert_verdict s
  | areqDeassert => exact execAreqDeassert_verdict s
  | auxCycleStart c => exact execAuxCycleStart_verdict c s
  | auxAccessComplete => exact execAuxAccessComplete_verdict s
  | astbDrop => exact State.verdict_unless (by simp [State.Due])
  | astbAssertionDuringAccess => exact execAstbAssertionDuringAccess_verdict s
  | resetAssert => exact State.verdict_unless (by simp [State.Due])
  | resetRelease st => exact State.verdict_of_guard Iff.rfl
  | _ => cases hi

/-! ### Host cycles -/

/-- A data port write on a free bus completes where the cycle writes what is the row's, and otherwise spells another. -/
theorem State.dataWrite_verdict {s : State} {i : Instr} {c : IoCycle} {mine : Byte → Byte → Bool}
    {p : Byte → Byte → Prop} {effect : Byte → Byte → State → State} (hb : s.busFree = true)
    (hp : s.Due i = s.Writes c p) (hmine : ∀ x b, p x b ↔ mine x b = true) :
    s.Verdict i .cycleSpellsAnother (s.dataWrite c mine effect) := by
  have hdue : s.Due i ↔ s.Writes c fun x b => mine x b = true := by
    rw [hp]
    simp only [State.Writes, hmine]
  unfold State.dataWrite
  rw [if_neg (by simp [hb])]
  split
  · rename_i x b hw
    split
    · rename_i hm
      exact .next _ (hdue.mpr ⟨x, b, hw, hm⟩)
    · rename_i hm
      refine .refused fun h => hm ?_
      obtain ⟨y, d, hyd, hm'⟩ := hdue.mp h
      obtain ⟨rfl, rfl⟩ : x = y ∧ b = d := by simpa [hw] using hyd
      exact hm'
  · rename_i hw
    refine .refused fun h => ?_
    obtain ⟨y, d, hyd, -⟩ := hdue.mp h
    simp [hw] at hyd

/-- A command on a free bus completes where the cycle writes its code to the command register. -/
theorem State.command_verdict {s : State} {i : Instr} {c : IoCycle} {code : Byte} {run : State → Reply}
    (hb : s.busFree = true) (hdue : s.Due i = s.Spells c code) :
    s.Verdict i .cycleSpellsAnother (s.command c (fun b => decide (b = code)) run) :=
  State.dataWrite_verdict hb hdue fun x b => by simp

/-- A well-formed host cycle carries a lane. -/
theorem Instr.lanes_ne_zero {i : Instr} {l : BitVec 4} (hw : i.wellFormed = true) (hi : i.hostLanes = some l) :
    l ≠ 0#4 := by
  simpa [Instr.wellFormed, hi] using hw

theorem execHostMemoryCycleArrival_verdict {c : MemoryCycle} {s : State} (hl : c.lanes ≠ 0#4) (hb : s.busFree = true) :
    s.Verdict (.hostMemoryCycleArrival c) .cycleSpellsAnother (execHostMemoryCycleArrival c s) := by
  unfold execHostMemoryCycleArrival
  rw [if_neg hl, if_neg (by simp [hb])]
  split
  all_goals exact .next _ trivial

theorem execUnclaimedIoCycle_verdict {dir : Direction} {c : IoCycle} {s : State} (hl : c.lanes ≠ 0#4)
    (hb : s.busFree = true) :
    s.Verdict (.unclaimedIoCycle dir c) .cycleSpellsAnother (execUnclaimedIoCycle dir c s) := by
  unfold execUnclaimedIoCycle
  rw [if_neg hl, if_neg (by simp [hb])]
  split
  · rename_i hr
    exact .next _ (.inl hr)
  rename_i hr
  split
  · rename_i hc
    cases dir with
    | read => exact .next _ (.inr (.inr rfl))
    | write => exact .refused (by simp [State.Due, hr, hc])
  · rename_i hc
    exact .next _ (.inr (.inl (by simpa using hc)))

theorem execIndexPortWrite_verdict {c : IoCycle} {s : State} (hb : s.busFree = true) :
    s.Verdict (.indexPortWrite c) .cycleSpellsAnother (execIndexPortWrite c s) := by
  unfold execIndexPortWrite
  rw [if_neg (by simp [hb])]
  exact State.verdict_of_guard (by simp [State.Due, and_assoc])

/-- The three indexes of a group of settings (Table 11-1). -/
theorem index_mem_range (x : Byte) :
    ((0x1E ≤ x.toNat ∧ x.toNat ≤ 0x20) ↔ x = 0x1E#8 ∨ x = 0x1F#8 ∨ x = 0x20#8)
      ∧ ((0x21 ≤ x.toNat ∧ x.toNat ≤ 0x23) ↔ x = 0x21#8 ∨ x = 0x22#8 ∨ x = 0x23#8) := by
  constructor
  all_goals bv_omega

/-- The classes REGISTER_WRITE covers are the argument register's and those a write does not change (R162, R163). -/
theorem plainWrite_iff (x : Byte) :
    (indexClass x).plainWrite = true ↔ x = 0x05#8 ∨ indexClass x ∈
      [.unimplemented, .result, .status, .view, .strap, .identification, .monitor] := by
  have hargument : indexClass x = .argument ↔ x = 0x05#8 := by
    revert x
    decide
  rw [← hargument]
  cases indexClass x <;> simp [IndexClass.plainWrite]

/-- A host cycle that carries a lane completes on a free bus where it is due, and otherwise spells another row. -/
theorem exec_verdict_cycle {i : Instr} {s : State} (hi : i.hostLanes ≠ none) (hw : i.wellFormed = true)
    (hb : s.busFree = true) : s.Verdict i .cycleSpellsAnother (exec i s) := by
  cases i with
  | hostMemoryCycleArrival c => exact execHostMemoryCycleArrival_verdict (Instr.lanes_ne_zero hw rfl) hb
  | unclaimedIoCycle dir c => exact execUnclaimedIoCycle_verdict (Instr.lanes_ne_zero hw rfl) hb
  | indexPortWrite c => exact execIndexPortWrite_verdict hb
  | stagingWrite c | postingEnableWrite c | hostWaitLimitWrite c | parityTerminationWrite c | parityCheckEnableWrite c
  | bootAccessTimeWrite c | interruptMaskWrite c =>
    dsimp only [exec, execStagingWrite, execPostingEnableWrite, execHostWaitLimitWrite, execParityTerminationWrite,
      execParityCheckEnableWrite, execBootAccessTimeWrite, execInterruptMaskWrite]
    exact State.dataWrite_verdict hb rfl fun x b => by simp
  | guaranteeWrite c =>
    dsimp only [exec, execGuaranteeWrite]
    refine State.dataWrite_verdict hb rfl fun x b => ?_
    rw [← (index_mem_range x).1]
    simp
  | idleWindowWrite c =>
    dsimp only [exec, execIdleWindowWrite]
    refine State.dataWrite_verdict hb rfl fun x b => ?_
    rw [← (index_mem_range x).2]
    simp
  | registerWrite c =>
    dsimp only [exec, execRegisterWrite]
    exact State.dataWrite_verdict hb rfl fun x b => (plainWrite_iff x).symm
  | setWindow c | commitRoute c | loadRoute c | lockRouting c | commitOverlay c | loadOverlay c | submitJob c
  | abortActive c | flushQueued c | engineReset c | monitorStart c | monitorStop c | snapshotMonitor c
  | setAuxWindow c | popFault c | clearOverflow c | popCompletion c | commitSelect c | loadSelect c | setPorts c =>
    exact State.command_verdict hb rfl
  | unknownCommand c =>
    dsimp only [exec, execUnknownCommand]
    exact State.dataWrite_verdict hb rfl fun x b => by simp
  | _ => exact absurd rfl hi

/-- A host cycle that carries a lane arrives during another: the host broke the contract of the bus (log entry 6). -/
theorem exec_of_busy {i : Instr} {s : State} (hi : i.hostLanes ≠ none) (hw : i.wellFormed = true)
    (hb : s.busFree = false) : exec i s = .fault .hostBusOccupied := by
  cases i with
  | hostMemoryCycleArrival c => exact (if_neg (Instr.lanes_ne_zero hw rfl)).trans (if_pos hb)
  | unclaimedIoCycle dir c => exact (if_neg (Instr.lanes_ne_zero hw rfl)).trans (if_pos hb)
  | indexPortWrite c | stagingWrite c | postingEnableWrite c | hostWaitLimitWrite c | parityTerminationWrite c
  | parityCheckEnableWrite c | bootAccessTimeWrite c | guaranteeWrite c | idleWindowWrite c | interruptMaskWrite c
  | registerWrite c | setWindow c | commitRoute c | loadRoute c | lockRouting c | commitOverlay c | loadOverlay c
  | submitJob c | abortActive c | flushQueued c | engineReset c | monitorStart c | monitorStop c | snapshotMonitor c
  | setAuxWindow c | popFault c | clearOverflow c | popCompletion c | commitSelect c | loadSelect c | setPorts c
  | unknownCommand c => exact if_pos hb
  | _ => exact absurd rfl hi

/-- Settles O4: a host cycle has a verdict on a free bus, any other event always. -/
theorem dueCommandsCompleteOthersStop : Obligations.DueCommandsCompleteOthersStop := by
  intro i s
  refine ⟨fun hw hi hb => exec_of_busy hi hw hb, fun hw hb => ?_, ?_, ?_⟩
  · have hverdict : s.Verdict i (if i.hostLanes = none then .notDue else .cycleSpellsAnother) (exec i s) := by
      split
      · exact exec_verdict_event s ‹_›
      · exact exec_verdict_cycle ‹_› hw (hb ‹_›)
    exact ⟨hverdict.next_of_due, hverdict.refused_of_not_due⟩
  · rintro c rfl hl
    exact if_pos hl
  · rintro dir c rfl hl
    exact if_pos hl

/-! ### The state after reset

Nothing is held, queued or in progress, so that every property is the one of a free host bus, an engine with no active
job and a free store port. -/

theorem State.reset_consistent : State.reset.Consistent := by
  refine ⟨?queues, ?engine, ?host, ?bootPort, ?access, ?port, nofun, nofun, rfl, rfl, rfl, rfl, rfl⟩
  case queues =>
    exact ⟨by decide, by decide, by decide, by decide, List.forall_mem_nil _, trivial, fun h => absurd rfl h, nofun⟩
  case engine => exact ⟨nofun, rfl, rfl⟩
  case host => exact (State.hostLegal_iff_free rfl).mpr ⟨rfl, rfl, Bsc.not_readsForHost_of_free rfl⟩
  case bootPort =>
    exact (State.bootPortLegal_iff_away (EngineState.awayFromBoot_of_inactive rfl)).mpr ⟨fun _ => rfl, rfl, nofun⟩
  case access =>
    exact (State.accessLegal_iff_free rfl).mpr
      ⟨Hbi.outOfAccess_of_free rfl, EngineState.outOfAccess_of_inactive rfl, rfl⟩
  case port =>
    exact ⟨nofun, iff_of_true rfl rfl, fun _ => rfl, fun _ => rfl, nofun, fun _ r => by cases r <;> rfl⟩

/-- The configuration is that of a release under the same straps. -/
theorem State.reset_configValid : State.reset.ConfigValid :=
  (State.reset.released_configValid resetStraps).move (.quiet State.reset rfl)

/-- Settles O6: every property of the invariants holds after reset. -/
theorem resetStateIsLegal : Obligations.ResetStateIsLegal :=
  ⟨⟨rfl, rfl, rfl, nofun⟩, State.reset_configValid, State.reset_consistent, rfl, nofun⟩

end Sys2Proof.Machine
end
